-- ==== Sys2Proof/Word.lean ====
section
/-! DEFINITION. The word type and the arithmetic notation of 00_scope.md R8, R12 and R13. -/

namespace Sys2Proof

/-- A 32-bit word: every operand, result word and SeedTable entry (00_scope.md R11, R12). Unsigned. -/
abbrev Word := BitVec 32

/-- A 3-bit opcode (30_encoding.md R60). -/
abbrev Opcode := BitVec 3

/-- A packed 67-bit command vector, bit 0 least significant (30_encoding.md R60). -/
abbrev CmdBits := BitVec 67

/-- `UINT32_MAX` = 2^32 − 1 (00_scope.md R12). -/
def uint32Max : Word := 0xFFFFFFFF#32

/-- `add32(u, v)` = (u + v) mod 2^32 (00_scope.md R13). -/
def add32 (u v : Word) : Word := u + v

/-- `sub32(u, v)` = (u − v) mod 2^32, wrapping (00_scope.md R13). -/
def sub32 (u v : Word) : Word := u - v

/-- `v << n` on a 32-bit value: (v · 2^n) mod 2^32 (00_scope.md R13). -/
def shl32 (v : Word) (n : Nat) : Word := v <<< n

/-- `v >> n`: floor(v / 2^n), a logical shift (00_scope.md R13). -/
def shr32 (v : Word) (n : Nat) : Word := v >>> n

/-- The value of a word read as Q16.16: v represents v / 65536 (00_scope.md R8). -/
def q16_16 (v : Word) : ℚ := (v.toNat : ℚ) / 65536

end Sys2Proof
end

