-- ==== Sys2Proof/Config.lean ====
section
/-! DEFINITION. What an implementation fixes (the parameters of 00_scope.md R11), the two candidate SeedTables
that the spec names, and the free values. -/

namespace Sys2Proof

/-- The `OPEN` parameters of a block (00_scope.md R11, 10_state.md R36): fixed for a given block and changed by no
input. State carries them, so that every function and every statement over State takes them as an argument. -/
structure Params where
  /-- `SEED`, the 32 SeedTable values, entry k for exponent k (10_state.md R20, R21). -/
  seed : Vector Word 32
  /-- `OUTSTANDING`: how many accepted commands may wait for their response (10_state.md R28). -/
  outstanding : Nat
  /-- `LATENCY` in cycles for each of the eight opcodes (70_reset_and_hazards.md R200). No rule reads it. -/
  latency : Vector Nat 8
  /-- The latency of an RSQRT of a sentinel input, which may be smaller (70_reset_and_hazards.md R200). DESIGN CHOICE
  (entry 4): 0 and 0xFFFFFFFF share one number, which the spec does not say. No rule reads it. -/
  sentinelLatency : Nat
  deriving DecidableEq, Repr

/-- `SEED_DEFAULT` of 92_eei_decisions.md D7. PRESUMED: the spec marks it as general knowledge, not in the source
(entry 2). Unsafe where a claim rests on its values. -/
def seedDefault : Vector Word 32 :=
  #v[65536, 46341, 32768, 23170, 16384, 11585, 8192, 5793,
     4096, 2896, 2048, 1448, 1024, 724, 512, 362,
     256, 181, 128, 90, 64, 45, 32, 23,
     16, 11, 8, 6, 4, 3, 2, 1]

/-- `SEED_ROUND` of 92_eei_decisions.md D7: k ↦ floor(65536 / 2^(k/2) + 1/2), which differs from `SEED_DEFAULT` at
k = 19 only. -/
def seedRound : Vector Word 32 :=
  #v[65536, 46341, 32768, 23170, 16384, 11585, 8192, 5793,
     4096, 2896, 2048, 1448, 1024, 724, 512, 362,
     256, 181, 128, 91, 64, 45, 32, 23,
     16, 11, 8, 6, 4, 3, 2, 1]

/-- The parameters that State.reset carries. DESIGN CHOICE for OUTSTANDING and LATENCY (entries 3 and 4), PRESUMED
for SEED (entry 2). Unsafe for a claim about State.reset alone; statements quantify over every Params. -/
def Params.default : Params where
  seed := seedDefault
  outstanding := 4
  latency := #v[1, 1, 1, 1, 1, 1, 1, 1]
  sentinelLatency := 1

/-- The n-th free word: a value the spec leaves unspecified ("any value": 93_implementation_defined.md). Nothing
constrains it (entry 11). Safe. -/
opaque Config.freeWord : Nat → Word

end Sys2Proof
end

