-- ==== Sys2Proof/Syntax.lean ====
section
/-! DEFINITION. The commands of the block: the raw triple on the request signals, the six instructions of
spec/opcode_table.json, and the response pair. -/

namespace Sys2Proof

/-- A command as the request signals carry it, `CMD` (30_encoding.md R60): the triple (req_op, req_a, req_b). -/
structure Command where
  op : Opcode
  a : Word
  b : Word
  deriving DecidableEq, Repr

/-- A response: the two 32-bit words (rsp_hi, rsp_lo) (10_state.md R26, R27). -/
structure Response where
  hi : Word
  lo : Word
  deriving DecidableEq, Repr

/-- The six instructions of the opcode map (30_encoding.md R61). Each holds both operand words as the
command carries them, also an operand it ignores (R62), so that no bit of a command is lost. -/
inductive Instr where
  /-- op 000: count leading zeros of a (40_clz.md R80). -/
  | clz (a b : Word)
  /-- op 001: the exact 64-bit product of a and b (41_multiply.md R90). -/
  | wmul (a b : Word)
  /-- op 010: the low 32 bits of the product of a and b (41_multiply.md R95). -/
  | tmul (a b : Word)
  /-- op 011: the coarse estimate of 1/√a (42_interpolator.md R110). -/
  | interp (a b : Word)
  /-- op 100: one Newton-Raphson step from the estimate a for the input b (43_newton.md R130). -/
  | newton (a b : Word)
  /-- op 101: the reciprocal square root of a (44_rsqrt.md R150). -/
  | rsqrt (a b : Word)
  deriving DecidableEq, Repr

/-- Operand a of an instruction, req_a (30_encoding.md R60). -/
def Instr.operandA : Instr → Word
  | .clz a _ => a
  | .wmul a _ => a
  | .tmul a _ => a
  | .interp a _ => a
  | .newton a _ => a
  | .rsqrt a _ => a

/-- Operand b of an instruction, req_b (30_encoding.md R60). -/
def Instr.operandB : Instr → Word
  | .clz _ b => b
  | .wmul _ b => b
  | .tmul _ b => b
  | .interp _ b => b
  | .newton _ b => b
  | .rsqrt _ b => b

end Sys2Proof
end

