-- ==== Sys2Proof/WellFormed.lean ====
section
/-! DEFINITION. The checks: on a raw command, on an instruction, on INTERP's contract, and on the parameters. -/

namespace Sys2Proof

/-- A command is well formed when its opcode is one of the six of the opcode map; 6 and 7 are reserved
(30_encoding.md R61, R65, R66). -/
def Command.wellFormed (c : Command) : Bool := decide (c.op.toNat ≤ 5)

/-- Every instruction is well formed: operands are whole words used as given (30_encoding.md R63), and operand values
never make a command undecodable (R65). Written per constructor, so that a new one needs its own answer. -/
def Instr.wellFormed : Instr → Bool
  | .clz _ _ => true
  | .wmul _ _ => true
  | .tmul _ _ => true
  | .interp _ _ => true
  | .newton _ _ => true
  | .rsqrt _ _ => true

/-- The contract of INTERP: x > 0 and x ≠ UINT32_MAX (42_interpolator.md R111). -/
def interpInContract (x : Word) : Bool := decide (x ≠ 0#32) && decide (x ≠ uint32Max)

/-- An instruction is in contract unless it is an INTERP of 0 or of UINT32_MAX: the only operand values outside an
operation's contract (30_encoding.md R67). -/
def Instr.inContract : Instr → Bool
  | .clz _ _ => true
  | .wmul _ _ => true
  | .tmul _ _ => true
  | .interp a _ => interpInContract a
  | .newton _ _ => true
  | .rsqrt _ _ => true

/-- The constraints on the SeedTable: (a), (b) and (d) of 10_state.md R21. Constraint (c), "approximates", gives no
tolerance and fixes no value. -/
abbrev SeedOk (seed : Vector Word 32) : Prop :=
  seed[0] = 65536#32 ∧ (∀ k : Fin 31, seed[k.val + 1] < seed[k.val]) ∧ 1#32 ≤ seed[31]

/-- The constraints on all parameters: 10_state.md R21, OUTSTANDING ≥ 1 (R28), LATENCY ≥ 1 for every opcode, and a
sentinel RSQRT that is not slower than any other (70_reset_and_hazards.md R200; opcode 5 is RSQRT). -/
abbrev Params.Ok (p : Params) : Prop :=
  SeedOk p.seed ∧ 1 ≤ p.outstanding ∧ (∀ k : Fin 8, 1 ≤ p.latency[k.val]) ∧
    1 ≤ p.sentinelLatency ∧ p.sentinelLatency ≤ p.latency[5]

end Sys2Proof
end

