-- ==== Sys2Proof/Decode.lean ====
section
/-! DEFINITION. Packing, decoding and encoding of commands (30_encoding.md R60, R61, R65, R66). -/

namespace Sys2Proof

/-- Why a command does not decode. -/
inductive DecodeError where
  /-- The opcode is 6 or 7 (30_encoding.md R66). -/
  | reservedOp (op : Opcode)
  deriving DecidableEq, Repr

/-- The fields of a packed command vector: op = bits 2:0, a = bits 34:3, b = bits 66:35 (30_encoding.md R60). -/
def unpack (w : CmdBits) : Command where
  op := w.extractLsb' 0 3
  a := w.extractLsb' 3 32
  b := w.extractLsb' 35 32

/-- The packed vector of a command: cmd = b << 35 | a << 3 | op (30_encoding.md R60). -/
def pack (c : Command) : CmdBits := c.b ++ c.a ++ c.op

/-- The opcode map (30_encoding.md R61). op alone selects the operation (R65); 6 and 7 are rejected by name (R66). -/
def decodeCommand (c : Command) : Except DecodeError Instr :=
  if c.op = 0#3 then .ok (.clz c.a c.b)
  else if c.op = 1#3 then .ok (.wmul c.a c.b)
  else if c.op = 2#3 then .ok (.tmul c.a c.b)
  else if c.op = 3#3 then .ok (.interp c.a c.b)
  else if c.op = 4#3 then .ok (.newton c.a c.b)
  else if c.op = 5#3 then .ok (.rsqrt c.a c.b)
  else .error (.reservedOp c.op)

/-- The instruction of a packed command vector. -/
def decode (w : CmdBits) : Except DecodeError Instr := decodeCommand (unpack w)

/-- The command vector whose bits are `w`, bit 0 least significant, every bit from `nbits` on zero. A command has 67
bits; the bits that fill the last byte above bit 66 belong to no field (30_encoding.md R60; entry 18). -/
def tableWord (nbits w : Nat) : CmdBits := BitVec.ofNat 67 (w % 2 ^ nbits)

/-- The instruction the decoder reads from a table word; none where the decoder refuses. -/
def decodeTableWord (nbits w : Nat) : Option Instr :=
  match decode (tableWord nbits w) with
  | .ok i => some i
  | .error _ => none

/-- The opcode of an instruction (30_encoding.md R61). -/
def Instr.opcode : Instr → Opcode
  | .clz _ _ => 0#3
  | .wmul _ _ => 1#3
  | .tmul _ _ => 2#3
  | .interp _ _ => 3#3
  | .newton _ _ => 4#3
  | .rsqrt _ _ => 5#3

/-- The command of an instruction. -/
def Instr.command (i : Instr) : Command := ⟨i.opcode, i.operandA, i.operandB⟩

/-- The packed command vector of an instruction. -/
def encode (i : Instr) : CmdBits := pack i.command

/-! Each constructor's decoding, on a word written out from the field places of 30_encoding.md R60: the `cmd` values
of 95_test_vectors.md L3 where it gives one. -/

/-- 95_test_vectors.md P3: `CLZ 0x00012345`, cmd 0x91A28. -/
theorem decode_word_clz : decode 0x91A28#67 = .ok (.clz 0x00012345#32 0#32) := by decide

/-- 95_test_vectors.md P3: `WMUL 0x12345678, 0x9ABCDEF0`, cmd 0x4D5E6F78091A2B3C1. -/
theorem decode_word_wmul :
    decode 0x4D5E6F78091A2B3C1#67 = .ok (.wmul 0x12345678#32 0x9ABCDEF0#32) := by decide

/-- 95_test_vectors.md P3: `TMUL 0x12345678, 0x9ABCDEF0`, cmd 0x4D5E6F78091A2B3C2. -/
theorem decode_word_tmul :
    decode 0x4D5E6F78091A2B3C2#67 = .ok (.tmul 0x12345678#32 0x9ABCDEF0#32) := by decide

/-- 95_test_vectors.md L2-ERR: `INTERP 0xFFFFFFFF`, cmd 0x7FFFFFFFB. -/
theorem decode_word_interp :
    decode 0x7FFFFFFFB#67 = .ok (.interp 0xFFFFFFFF#32 0#32) := by decide

/-- 95_test_vectors.md P1: `NEWTON 0x9A83, 3`, cmd 0x180004D41C. -/
theorem decode_word_newton :
    decode 0x180004D41C#67 = .ok (.newton 0x00009A83#32 3#32) := by decide

/-- 95_test_vectors.md P4: `RSQRT 1000`, cmd 0x1F45. -/
theorem decode_word_rsqrt : decode 0x1F45#67 = .ok (.rsqrt 1000#32 0#32) := by decide

/-- 95_test_vectors.md P5: op 110 with a = 1, b = 2, cmd 0x100000000E here (b << 35 | a << 3 | 6). -/
theorem decode_word_reserved : decode 0x100000000E#67 = .error (.reservedOp 6#3) := by decide

end Sys2Proof
end

