-- ==== Sys2Proof/Machine/State.lean ====
section
/-! DEFINITION. The state of the block and of its interface, the reasons a step can stop, and the state after reset. -/

namespace Sys2Proof.Machine

/-- The input signals the host drives, as they are sampled at a rising edge of clk (10_state.md R26). Their types
allow no unknown value, which is the host's duties (b) and (c) of 70_reset_and_hazards.md R196. -/
structure HostDrive where
  /-- `rst`: synchronous reset, active high (70_reset_and_hazards.md R190). -/
  rst : Bool
  /-- `req_valid`: the host offers a command. -/
  reqValid : Bool
  /-- `req_op`. -/
  reqOp : Opcode
  /-- `req_a`. -/
  reqA : Word
  /-- `req_b`. -/
  reqB : Word
  /-- `rsp_ready`: the host can take a response. -/
  rspReady : Bool
  deriving DecidableEq, Repr

/-- What the block is free to choose after an edge (10_state.md R28, R30; 93_implementation_defined.md section 2):
whether it raises req_ready where the rules let it, and whether it offers the response of the oldest command. -/
structure BlockChoice where
  raiseReady : Bool
  offer : Bool
  deriving DecidableEq, Repr

/-- The two outcomes of 60_exceptions.md R171, each with its recorded info. They are records, not stops: the block
still answers the command once, in order, with unspecified data, and the run goes on (95_test_vectors.md P5). -/
inductive ModelOutcome where
  /-- `fault InterpDomain(a)`: INTERP of 0 or of UINT32_MAX (42_interpolator.md R111). -/
  | interpDomain (a : Word)
  /-- `refuse ReservedOp(op)`: opcode 6 or 7 (30_encoding.md R66). -/
  | reservedOp (op : Opcode)
  deriving DecidableEq, Repr

/-- A command that has been answered, with the response the host took. -/
structure Answer where
  cmd : Command
  rsp : Response
  deriving DecidableEq, Repr

/-- The whole state. One step of the machine is one rising edge of clk (10_state.md R26). -/
structure State where
  /-- `SEED`, `OUTSTANDING`, `LATENCY`: constants of the block, changed by no step (10_state.md R22, R36; entry 1). -/
  params : Params
  /-- The input signals as they will be sampled at the coming edge (10_state.md R26). -/
  inp : HostDrive
  /-- `Q`: the commands accepted and not yet answered, oldest first (10_state.md R28). -/
  queue : List Command
  /-- `req_ready`: the block can accept a command (10_state.md R26, R28). -/
  reqReady : Bool
  /-- `rsp_valid`: the block offers the response of the oldest command (10_state.md R26, R29). -/
  rspValid : Bool
  /-- `rsp_hi`; unspecified while rsp_valid = 0 (10_state.md R35). -/
  rspHi : Word
  /-- `rsp_lo`; unspecified while rsp_valid = 0 (10_state.md R35). -/
  rspLo : Word
  /-- The model mark `faulted` (10_state.md R34). -/
  faulted : Bool
  /-- The model mark `refused` (10_state.md R34). -/
  refused : Bool
  /-- The model outcomes of the run with their recorded info, in acceptance order (60_exceptions.md R171, R174). -/
  record : List ModelOutcome
  /-- The model's own: the commands of the request transfers since the last reset (20_memory.md R47; entry 16). -/
  accepted : List Command
  /-- The model's own: the response transfers since the last reset (20_memory.md R47; entry 16). -/
  answered : List Answer
  /-- The model's own: how many free words have been drawn (entry 11). -/
  freeCount : Nat
  /-- The model's own: what the host drives after each coming edge (70_reset_and_hazards.md R196; entry 6). -/
  hostPlan : List HostDrive
  /-- The model's own: the block's free timing choices after each coming edge (10_state.md R28, R30; entry 7). -/
  blockPlan : List BlockChoice
  deriving DecidableEq, Repr

/-- Why a step has no next state. -/
inductive Fault where
  /-- The host withdraws or changes a request that has not been accepted: it breaks its duty (a) of
  70_reset_and_hazards.md R196. 93_implementation_defined.md treats it as `stuck`: the model has no such host move.
  Raised by the step, never by an instruction. Unsafe for a host that breaks the duty, which is outside every claim
  (92_eei_decisions.md D16; entry 8). -/
  | hostBrokeHandshake
  deriving DecidableEq, Repr

/-- Why an instruction has no meaning. -/
inductive Refusal where
  /-- An instruction whose meaning has not been written. No arm of exec answers it. Safe. -/
  | notModelled (mnemonic : String)
  deriving DecidableEq, Repr

/-- The host's signals in State.reset: every one low or zero, rst back at 0 (entry 14, DESIGN CHOICE). -/
def HostDrive.idle : HostDrive where
  rst := false
  reqValid := false
  reqOp := 0#3
  reqA := 0#32
  reqB := 0#32
  rspReady := false

/-- The state after a reset (10_state.md R35; 70_reset_and_hazards.md R190): the first edge with rst back at 0. Q is
empty, rsp_valid is 0, the marks are false. Entries 2, 3, 4, 13 and 14 name the values the spec leaves open. -/
def State.reset : State where
  params := Params.default
  inp := HostDrive.idle
  queue := []
  reqReady := false
  rspValid := false
  rspHi := 0#32
  rspLo := 0#32
  faulted := false
  refused := false
  record := []
  accepted := []
  answered := []
  freeCount := 0
  hostPlan := []
  blockPlan := []

end Sys2Proof.Machine
end

