-- ==== Sys2Proof/Machine/Flags.lean ====
section
/-! DEFINITION. The block has no flags, condition codes or predicates (10_state.md R31). The only marks are the two
model marks of R34, with the recorded info of 60_exceptions.md R171. -/

namespace Sys2Proof.Machine

/-- Whether an outcome is the fault of 60_exceptions.md R171. -/
def ModelOutcome.isFault : ModelOutcome → Bool
  | .interpDomain _ => true
  | .reservedOp _ => false

/-- Whether an outcome is the refusal of 60_exceptions.md R171. -/
def ModelOutcome.isRefusal : ModelOutcome → Bool
  | .interpDomain _ => false
  | .reservedOp _ => true

/-- `fault InterpDomain(a)`: the run is marked faulted for good and the operand is recorded (00_scope.md R14,
10_state.md R34, 60_exceptions.md R171). -/
def State.markFault (s : State) (a : Word) : State :=
  { s with faulted := true, record := s.record ++ [.interpDomain a] }

/-- `refuse ReservedOp(op)`: the run is marked refused for good and the opcode is recorded (00_scope.md R14,
10_state.md R34, 60_exceptions.md R171). -/
def State.markRefused (s : State) (op : Opcode) : State :=
  { s with refused := true, record := s.record ++ [.reservedOp op] }

/-- Either outcome's mark and record. -/
def State.markOutcome (s : State) : ModelOutcome → State
  | .interpDomain a => s.markFault a
  | .reservedOp op => s.markRefused op

end Sys2Proof.Machine
end

