-- ==== Sys2Proof/Machine/Operands.lean ====
section
/-! DEFINITION. The operand mapping of 30_encoding.md R62 and the SeedTable read of 20_memory.md R40. -/

namespace Sys2Proof.Machine

/-- The single input x of CLZ, INTERP and RSQRT: operand a; operand b is ignored (30_encoding.md R62). -/
def operandX (a _b : Word) : Word := a

/-- The first factor of WMUL and TMUL: operand a (30_encoding.md R62). -/
def firstFactor (a _b : Word) : Word := a

/-- The second factor of WMUL and TMUL: operand b (30_encoding.md R62). -/
def secondFactor (_a b : Word) : Word := b

/-- The coarse estimate y of NEWTON, in Q16.16: operand a (30_encoding.md R62). -/
def newtonEstimate (a _b : Word) : Word := a

/-- The original input x of NEWTON: operand b (30_encoding.md R62). -/
def newtonInput (_a b : Word) : Word := b

/-- `SeedRead(k)`, the index typed as a 5-bit value (20_memory.md R40, R41). It has no side effect. -/
def seedRead (seed : Vector Word 32) (k : BitVec 5) : Word := seed[k.toNat]

end Sys2Proof.Machine
end

