-- ==== Sys2Proof/Machine/Ops.lean ====
section
/-! DEFINITION. The named operations on the interface: driving a response, the two transfers, the reset edge, the
host's next drive. The block raises no exception and has no exception entry or return (60_exceptions.md R170, R175,
R176); what stands in their place are the two model outcomes of R171 (Flags.lean) with the unspecified response here. -/

namespace Sys2Proof.Machine

/-- `(hi, lo) <- (u, v)`: the block drives the response of the head command and raises rsp_valid (00_scope.md R14,
10_state.md R29). The queue keeps the command until the response transfer. -/
def State.offer (s : State) (hi lo : Word) : State :=
  { s with rspValid := true, rspHi := hi, rspLo := lo }

/-- One response whose data are unspecified, any value (30_encoding.md R66, 42_interpolator.md R111): two free words
(entry 11). -/
def State.offerUnspecified (s : State) : State :=
  { s with
    rspValid := true
    rspHi := Config.freeWord s.freeCount
    rspLo := Config.freeWord (s.freeCount + 1)
    freeCount := s.freeCount + 2 }

/-- rsp_valid = 0: rsp_hi and rsp_lo are unspecified, any value (10_state.md R35; entry 13). -/
def State.offerNothing (s : State) : State :=
  { s with
    rspValid := false
    rspHi := Config.freeWord s.freeCount
    rspLo := Config.freeWord (s.freeCount + 1)
    freeCount := s.freeCount + 2 }

/-- The command on the request signals (10_state.md R26). -/
def State.requested (s : State) : Command := ⟨s.inp.reqOp, s.inp.reqA, s.inp.reqB⟩

/-- A request transfer happens at an edge where rst = 0, req_valid = 1 and req_ready = 1 (10_state.md R26). -/
def State.requestTransfer (s : State) : Bool := !s.inp.rst && s.inp.reqValid && s.reqReady

/-- A response transfer happens at an edge where rst = 0, rsp_valid = 1 and rsp_ready = 1 (10_state.md R26). -/
def State.responseTransfer (s : State) : Bool := !s.inp.rst && s.rspValid && s.inp.rspReady

/-- The response transfer removes the head of Q and ends the offer (10_state.md R29). rsp_valid is 1 only when Q is
non-empty, so the empty case is reached from no state that keeps Inv. -/
def State.takeResponse (s : State) : State :=
  if s.responseTransfer then
    match s.queue with
    | [] => { s with rspValid := false }
    | c :: rest =>
      { s with queue := rest, rspValid := false, answered := s.answered ++ [⟨c, ⟨s.rspHi, s.rspLo⟩⟩] }
  else s

/-- The request transfer appends its command to the end of Q (10_state.md R28). -/
def State.takeRequest (s : State) : State :=
  if s.requestTransfer then
    { s with queue := s.queue ++ [s.requested], accepted := s.accepted ++ [s.requested] }
  else s

/-- A reset edge empties Q and drops every command in it, and sets rsp_valid to 0; the SeedTable and the marks stay
(70_reset_and_hazards.md R190, R193; 10_state.md R34, R35). The histories since reset start again (entry 16). -/
def State.resetEdge (s : State) : State :=
  { s with queue := [], rspValid := false, accepted := [], answered := [] }

/-- What the rising edge itself does: a reset (70_reset_and_hazards.md R190), or the transfers that the signals allow
(10_state.md R26). A request and a response transfer at one edge commute (entry 5). -/
def State.transfers (s : State) : State :=
  if s.inp.rst then s.resetEdge else s.takeResponse.takeRequest

/-- What the host drives after the edge: its plan, or, where the plan is exhausted, every signal as it was, with
req_valid lowered once its request has been taken (entry 6, DESIGN CHOICE). -/
def State.hostNext (s : State) : HostDrive :=
  match s.hostPlan with
  | [] => { s.inp with reqValid := s.inp.reqValid && !s.requestTransfer }
  | d :: _ => d

/-- The host breaks its duty (a) of 70_reset_and_hazards.md R196: it has raised req_valid, no request transfer
happens at this edge, and it does not keep req_valid, req_op, req_a and req_b unchanged. -/
def State.hostBreaksHandshake (s : State) : Bool :=
  s.inp.reqValid && !s.requestTransfer &&
    !(s.hostNext.reqValid && decide (s.hostNext.reqOp = s.inp.reqOp) &&
      decide (s.hostNext.reqA = s.inp.reqA) && decide (s.hostNext.reqB = s.inp.reqB))

/-- The block's free choice after the edge; where its plan is exhausted it acts as soon as the rules let it, which
keeps the liveness of 10_state.md R30 (entry 7). -/
def State.blockNext (s : State) : BlockChoice :=
  match s.blockPlan with
  | [] => ⟨true, true⟩
  | d :: _ => d

/-- The rising edge, the host's next drive and req_ready after it. req_ready is 0 while rst = 1 and whenever the
length of Q equals OUTSTANDING; otherwise the block may hold it at 0 (10_state.md R28, R35). -/
def State.afterEdge (s : State) : State :=
  let t := s.transfers
  { t with
    inp := s.hostNext
    reqReady := s.blockNext.raiseReady && !s.hostNext.rst && decide (t.queue.length < s.params.outstanding)
    hostPlan := s.hostPlan.tail
    blockPlan := s.blockPlan.tail }

end Sys2Proof.Machine
end

