-- ==== Sys2Proof/Machine/Classifier.lean ====
section
/-! DEFINITION. The BitLengthClassifier: CLZ (40_clz.md). -/

namespace Sys2Proof.Machine

/-- The zero bits met when the lowest n bits of x are read from bit n − 1 down to the first set bit. -/
def zerosFrom (x : Word) : Nat → Nat
  | 0 => 0
  | n + 1 => if x.getLsbD n then 0 else zerosFrom x n + 1

/-- `clz(x)`: the number of leading zero bits of x, counted from bit 31 down; 32 for x = 0 (40_clz.md R80). -/
def clz (x : Word) : Nat := zerosFrom x 32

/-- The exponent 31 − clz(x) = floor(log2 x), for x > 0 (40_clz.md R82). -/
def exponent (x : Word) : Nat := 31 - clz x

/-- One conditional step of the binary search of 40_clz.md R81: if the highest `bits` bits of v are 0, add `bits` to the
count and shift v left by as many. -/
def searchStep (bits : Nat) (nv : Nat × Word) : Nat × Word :=
  if shr32 nv.2 (32 - bits) = 0#32 then (nv.1 + bits, shl32 nv.2 bits) else nv

/-- The informative binary search over 16, 8, 4, 2 and 1 bits, with the zero case first (40_clz.md R81,
90_conflicts.md C6). The meaning of CLZ does not use it. -/
def clzBinarySearch (x : Word) : Nat :=
  if x = 0#32 then 32
  else (searchStep 1 (searchStep 2 (searchStep 4 (searchStep 8 (searchStep 16 (0, x)))))).1

/-- CLZ: (hi, lo) <- (0, clz(a)) (40_clz.md R80). -/
def execClz (a b : Word) (s : State) : Host.Outcome State Fault Refusal :=
  .next (s.offer 0#32 (BitVec.ofNat 32 (clz (operandX a b))))

end Sys2Proof.Machine
end

