-- ==== Sys2Proof/Machine/Multiply.lean ====
section
/-! DEFINITION. The two multiplies: WMUL and TMUL (41_multiply.md). -/

namespace Sys2Proof.Machine

/-- The exact product of two words read as unsigned numbers (41_multiply.md R90). -/
def product (a b : Word) : Nat := a.toNat * b.toNat

/-- WideningMultiply: the exact 64-bit product as (hi, lo), hi = bits 63..32, lo = bits 31..0 (41_multiply.md R90, R93;
00_scope.md R9). -/
def wideMul (a b : Word) : Response where
  hi := BitVec.ofNat 32 (product a b / 2 ^ 32)
  lo := BitVec.ofNat 32 (product a b % 2 ^ 32)

/-- TruncatingMultiply: (a · b) mod 2^32 (41_multiply.md R95). -/
def truncMul (a b : Word) : Word := BitVec.ofNat 32 (product a b % 2 ^ 32)

/-- The informative half-split algorithm of 41_multiply.md R91. The meaning of WMUL does not use it. -/
def halfSplitMul (a b : Word) : Response :=
  let al := a.toNat % 2 ^ 16
  let ah := a.toNat / 2 ^ 16
  let bl := b.toNat % 2 ^ 16
  let bh := b.toNat / 2 ^ 16
  let ll := BitVec.ofNat 32 (al * bl)
  let lh := BitVec.ofNat 32 (al * bh)
  let hl := BitVec.ofNat 32 (ah * bl)
  let hh := BitVec.ofNat 32 (ah * bh)
  let mid := add32 lh hl
  let c1 : Word := if 2 ^ 32 ≤ lh.toNat + hl.toNat then 1#32 else 0#32
  let c2 : Word := if 2 ^ 32 ≤ ll.toNat + (shl32 mid 16).toNat then 1#32 else 0#32
  { hi := add32 (add32 (add32 hh (shr32 mid 16)) (shl32 c1 16)) c2
    lo := add32 ll (shl32 mid 16) }

/-- WMUL: (hi, lo) <- the exact product (41_multiply.md R90). -/
def execWmul (a b : Word) (s : State) : Host.Outcome State Fault Refusal :=
  .next (s.offer (wideMul (firstFactor a b) (secondFactor a b)).hi (wideMul (firstFactor a b) (secondFactor a b)).lo)

/-- TMUL: (hi, lo) <- (0, (a · b) mod 2^32) (41_multiply.md R95). -/
def execTmul (a b : Word) (s : State) : Host.Outcome State Fault Refusal :=
  .next (s.offer 0#32 (truncMul (firstFactor a b) (secondFactor a b)))

end Sys2Proof.Machine
end

