-- ==== Sys2Proof/Machine/Interpolator.lean ====
section
/-! DEFINITION. The Interpolator: INTERP (42_interpolator.md). -/

namespace Sys2Proof.Machine

/-- Step 2, y_base: `SeedRead(e)` (42_interpolator.md R110, R112). -/
def yBase (seed : Vector Word 32) (e : Nat) : Word := seedRead seed (BitVec.ofNat 5 e)

/-- Step 2, y_next: `SeedRead(e + 1)` if e < 31, else 1, one ULP (42_interpolator.md R110, R112). -/
def yNext (seed : Vector Word 32) (e : Nat) : Word :=
  if e < 31 then seedRead seed (BitVec.ofNat 5 (e + 1)) else 1#32

/-- Step 3, the fraction: x − 2^e rescaled to 16 bits, rounding down for e ≥ 16 and exact for e < 16
(42_interpolator.md R110, R113). -/
def fraction (x : Word) (e : Nat) : Word :=
  if 16 ≤ e then shr32 (sub32 x (shl32 1#32 e)) (e - 16)
  else shl32 (sub32 x (shl32 1#32 e)) (16 - e)

/-- Step 4, the blend: y_base − ((y_base − y_next) · f mod 2^32 >> 16). The product is the truncating one
(42_interpolator.md R110, R114). -/
def blend (base next f : Word) : Word := sub32 base (shr32 (truncMul (sub32 base next) f) 16)

/-- The four steps of INTERP, for x in the contract (42_interpolator.md R110). -/
def interpolate (seed : Vector Word 32) (x : Word) : Word :=
  blend (yBase seed (exponent x)) (yNext seed (exponent x)) (fraction x (exponent x))

/-- INTERP: (hi, lo) <- (0, y) in the contract. For a = 0 and a = 0xFFFFFFFF, `fault InterpDomain(a)`: one response
with unspecified data, and the mark faulted (42_interpolator.md R110, R111; entry 9). -/
def execInterp (a b : Word) (s : State) : Host.Outcome State Fault Refusal :=
  if interpInContract (operandX a b) then .next (s.offer 0#32 (interpolate s.params.seed (operandX a b)))
  else .next (s.offerUnspecified.markFault (operandX a b))

end Sys2Proof.Machine
end

