-- ==== Sys2Proof/Machine/Newton.lean ====
section
/-! DEFINITION. The NewtonRefiner: NEWTON (43_newton.md). -/

namespace Sys2Proof.Machine

/-- Steps 1 to 4: xy2 = termA + termB (mod 2^32), x·y² in Q16.16 kept to 32 bits (43_newton.md R130, R131). -/
def newtonXy2 (y x : Word) : Word :=
  let y2 := wideMul y y
  let p1 := wideMul x y2.hi
  let termA := shl32 p1.lo 16
  let p2 := wideMul x y2.lo
  let termB := shl32 p2.hi 16 ||| shr32 p2.lo 16
  add32 termA termB

/-- Step 5: term = (3 << 16) − xy2 (mod 2^32); 3 << 16 is 3.0 in Q16.16 (43_newton.md R130, R132). -/
def newtonTerm (xy2 : Word) : Word := sub32 (shl32 3#32 16) xy2

/-- Step 6: y · term, rounded to nearest by adding 2^16 with carry, and shifted right by 17 across the word boundary
(43_newton.md R130, R133). -/
def newtonRound (y term : Word) : Word :=
  let p := wideMul y term
  let carry : Word := if 2 ^ 32 ≤ p.lo.toNat + 2 ^ 16 then 1#32 else 0#32
  let plR := add32 p.lo (BitVec.ofNat 32 (2 ^ 16))
  let phR := add32 p.hi carry
  shl32 phR 15 ||| shr32 plR 17

/-- The six steps of NEWTON (43_newton.md R130). -/
def newtonStep (y x : Word) : Word := newtonRound y (newtonTerm (newtonXy2 y x))

/-- NEWTON: (hi, lo) <- (0, r), total over all operand pairs (43_newton.md R130, R135). -/
def execNewton (a b : Word) (s : State) : Host.Outcome State Fault Refusal :=
  .next (s.offer 0#32 (newtonStep (newtonEstimate a b) (newtonInput a b)))

end Sys2Proof.Machine
end

