-- ==== Sys2Proof/Machine/ReciprocalSqrt.lean ====
section
/-! DEFINITION. The top level: RSQRT (44_rsqrt.md). -/

namespace Sys2Proof.Machine

/-- The computed path of RSQRT: exactly one Newton step from the interpolated estimate (44_rsqrt.md R150;
00_scope.md R7). -/
def refined (seed : Vector Word 32) (x : Word) : Word := newtonStep (interpolate seed x) x

/-- RSQRT: the sentinels 0xFFFFFFFF for x = 0 and 1 for x = UINT32_MAX, else the computed path (44_rsqrt.md R150 to
R152). -/
def reciprocalSqrt (seed : Vector Word 32) (x : Word) : Word :=
  if x = 0#32 then uint32Max
  else if x = uint32Max then 1#32
  else refined seed x

/-- RSQRT: (hi, lo) <- (0, y), total over the 32-bit domain (44_rsqrt.md R150, R157). -/
def execRsqrt (a b : Word) (s : State) : Host.Outcome State Fault Refusal :=
  .next (s.offer 0#32 (reciprocalSqrt s.params.seed (operandX a b)))

end Sys2Proof.Machine
end

