-- ==== Sys2Proof/Machine/Dispatch.lean ====
section
/-! DEFINITION. One arm per instruction, each one call of its meaning. -/

namespace Sys2Proof.Machine

/-- The meaning of an instruction whose command is the head of Q: the block drives its response (10_state.md R27,
R29). -/
def exec (i : Instr) (s : State) : Host.Outcome State Fault Refusal :=
  match i with
  | .clz a b => Sys2Proof.Machine.execClz a b s
  | .wmul a b => Sys2Proof.Machine.execWmul a b s
  | .tmul a b => Sys2Proof.Machine.execTmul a b s
  | .interp a b => Sys2Proof.Machine.execInterp a b s
  | .newton a b => Sys2Proof.Machine.execNewton a b s
  | .rsqrt a b => Sys2Proof.Machine.execRsqrt a b s

end Sys2Proof.Machine
end

