-- ==== Sys2Proof/Machine/Respond.lean ====
section
/-! DEFINITION. The response port after an edge: the command at the head of Q is decoded and answered. -/

namespace Sys2Proof.Machine

/-- Answer one command: decode it and run its instruction. A reserved opcode is answered once with unspecified data and
sets the mark refused (30_encoding.md R65, R66; entry 10). -/
def answerCommand (c : Command) (s : State) : Host.Outcome State Fault Refusal :=
  match decodeCommand c with
  | .ok i => exec i s
  | .error (.reservedOp op) => .next (s.offerUnspecified.markRefused op)

/-- The response port after an edge. An offer that has not been taken stays (10_state.md R29). Otherwise, where Q is
non-empty, the block may offer the response of the head, and where it does not, rsp_valid is 0 (R29, R35). -/
def drivePort (offer : Bool) (s : State) : Host.Outcome State Fault Refusal :=
  if s.rspValid then .next s
  else
    match s.queue with
    | [] => .next s.offerNothing
    | c :: _ => if offer then answerCommand c s else .next s.offerNothing

/-- The request port holds the command `w` and the block is ready for it, with nothing queued before it: the very next
step accepts it and answers it (entry 17). -/
def State.withCommand (s : State) (w : CmdBits) : State :=
  { s with
    inp := { s.inp with
      rst := false, reqValid := true, reqOp := (unpack w).op, reqA := (unpack w).a, reqB := (unpack w).b }
    queue := []
    reqReady := true
    rspValid := false
    accepted := s.answered.map Answer.cmd
    blockPlan := ⟨true, true⟩ :: s.blockPlan }

end Sys2Proof.Machine
end

