-- ==== Sys2Proof/Machine/Step.lean ====
section
/-! DEFINITION. One step: one rising edge of clk (10_state.md R26). -/

namespace Sys2Proof.Machine

/-- One rising edge: the transfers or the reset, then what the host drives next, then the response port. A host that
breaks the handshake has no move (70_reset_and_hazards.md R196; 93_implementation_defined.md). -/
def step (s : State) : Host.Outcome State Fault Refusal :=
  if s.hostBreaksHandshake then .fault .hostBrokeHandshake
  else drivePort s.blockNext.offer s.afterEdge

/-- The table word `w` placed where the block takes its next command: the request signals (10_state.md R25, R26). -/
def State.withFetchWord (s : State) (nbits w : Nat) : State := s.withCommand (tableWord nbits w)

end Sys2Proof.Machine
end

