-- ==== Sys2Proof/Machine/Transaction.lean ====
section
/-! DEFINITION. The transaction-level view of the block: the response function F of 10_state.md R27 and the three moves
Accept, Respond and Reset (10_state.md R28, R29; 70_reset_and_hazards.md R190, R201). The step does not use it; it says
what the signal-level step amounts to. -/

namespace Sys2Proof.Machine

/-- The response of an instruction; none where its data are unspecified (10_state.md R27, 42_interpolator.md R111). -/
def instrResponse (seed : Vector Word 32) : Instr → Option Response
  | .clz a _ => some ⟨0#32, BitVec.ofNat 32 (clz a)⟩
  | .wmul a b => some (wideMul a b)
  | .tmul a b => some ⟨0#32, truncMul a b⟩
  | .interp a _ => if interpInContract a then some ⟨0#32, interpolate seed a⟩ else none
  | .newton a b => some ⟨0#32, newtonStep a b⟩
  | .rsqrt a _ => some ⟨0#32, reciprocalSqrt seed a⟩

/-- `F`: the response of a command; none where its data are unspecified (10_state.md R27, 30_encoding.md R66). -/
def commandResponse (seed : Vector Word 32) (c : Command) : Option Response :=
  match decodeCommand c with
  | .ok i => instrResponse seed i
  | .error _ => none

/-- The model outcome of a command, at most one (60_exceptions.md R171, R174). -/
def commandOutcome (c : Command) : Option ModelOutcome :=
  match decodeCommand c with
  | .ok (.interp a _) => if interpInContract a then none else some (.interpDomain a)
  | .ok _ => none
  | .error (.reservedOp op) => some (.reservedOp op)

/-- A response that may answer a command: F's where the data are specified, any where they are not (10_state.md R29,
R34). -/
def answers (seed : Vector Word 32) (c : Command) (r : Response) : Bool :=
  match commandResponse seed c with
  | some r' => decide (r = r')
  | none => true

/-- The transaction-level state: Q, and the transfers since reset. -/
structure TxnState where
  queue : List Command
  accepted : List Command
  answered : List Answer
  deriving DecidableEq, Repr

/-- The moves of the transaction-level model (70_reset_and_hazards.md R201). -/
inductive TxnMove where
  | accept (c : Command)
  | respond (r : Response)
  | reset
  deriving DecidableEq, Repr

/-- One move; none where its precondition fails. Accept needs length(Q) < OUTSTANDING (10_state.md R28), Respond needs
Q = c :: rest and gives F(c) (R29), Reset empties Q (70_reset_and_hazards.md R190). -/
def txnApply (p : Params) (m : TxnMove) (t : TxnState) : Option TxnState :=
  match m with
  | .accept c =>
    if t.queue.length < p.outstanding then
      some { t with queue := t.queue ++ [c], accepted := t.accepted ++ [c] }
    else none
  | .respond r =>
    match t.queue with
    | [] => none
    | c :: rest =>
      if answers p.seed c r then some { t with queue := rest, answered := t.answered ++ [⟨c, r⟩] } else none
  | .reset => some ⟨[], [], []⟩

/-- A sequence of moves. -/
def txnRun (p : Params) : List TxnMove → TxnState → Option TxnState
  | [], t => some t
  | m :: ms, t =>
    match txnApply p m t with
    | some t' => txnRun p ms t'
    | none => none

/-- The transaction-level part of a state. -/
def State.txn (s : State) : TxnState := ⟨s.queue, s.accepted, s.answered⟩

/-- The moves that the coming edge makes: Reset, or Respond and Accept as the signals transfer. -/
def State.edgeMoves (s : State) : List TxnMove :=
  if s.inp.rst then [.reset]
  else (if s.responseTransfer then [.respond ⟨s.rspHi, s.rspLo⟩] else []) ++
    (if s.requestTransfer then [.accept s.requested] else [])

end Sys2Proof.Machine
end

