-- ==== Sys2Proof/Safety.lean ====
section
/-! DEFINITION. What a good state is, and the invariant of the interface. -/

namespace Sys2Proof.Machine

/-- Neither mark is set: the premise of a claim about values (10_state.md R34). -/
def State.unmarked (s : State) : Prop := s.faulted = false ∧ s.refused = false

/-- The commands whose response has been offered since the last reset, oldest first: those answered and, while
rsp_valid = 1, the head of Q. -/
def State.offered (s : State) : List Command :=
  s.answered.map Answer.cmd ++ (if s.rspValid then s.queue.take 1 else [])

/-- What the signals, the queue, the histories and the marks keep between edges. -/
structure Inv (s : State) : Prop where
  /-- The length of Q never exceeds OUTSTANDING (10_state.md R28). -/
  bounded : s.queue.length ≤ s.params.outstanding
  /-- req_ready is 0 whenever the length of Q equals OUTSTANDING (10_state.md R28). -/
  readyNotFull : s.reqReady = true → s.queue.length < s.params.outstanding
  /-- req_ready is 0 while rst = 1 (10_state.md R35). -/
  notReadyInReset : s.inp.rst = true → s.reqReady = false
  /-- rsp_valid is 1 only when Q is non-empty (10_state.md R29). -/
  validNonempty : s.rspValid = true → s.queue ≠ []
  /-- While rsp_valid = 1, (rsp_hi, rsp_lo) is the response of the head command (10_state.md R29). -/
  dataOfHead : ∀ c rest r, s.rspValid = true → s.queue = c :: rest →
    commandResponse s.params.seed c = some r → (⟨s.rspHi, s.rspLo⟩ : Response) = r
  /-- Every response given since reset is the response of its command (10_state.md R27, R29). -/
  answeredRight : ∀ x ∈ s.answered, ∀ r, commandResponse s.params.seed x.cmd = some r → x.rsp = r
  /-- Responses are given one per accepted command, in acceptance order (10_state.md R29, 20_memory.md R47). -/
  inOrder : s.accepted = s.answered.map Answer.cmd ++ s.queue
  /-- faulted is set exactly when a fault has been recorded (10_state.md R34). -/
  faultedIff : s.faulted = s.record.any ModelOutcome.isFault
  /-- refused is set exactly when a refusal has been recorded (10_state.md R34). -/
  refusedIff : s.refused = s.record.any ModelOutcome.isRefusal
  /-- The outcomes of the commands offered since reset stand in the record, in acceptance order
  (60_exceptions.md R174). -/
  recorded : s.offered.filterMap commandOutcome <:+ s.record

/-- The start of a run (70_reset_and_hazards.md R192): the state after reset of a block with parameters p, before a host
that drives hp and for a block timing bp. -/
def State.start (p : Params) (hp : List HostDrive) (bp : List BlockChoice) : State :=
  { State.reset with params := p, hostPlan := hp, blockPlan := bp }

/-- The host does not reset the block: not at the coming edge and not in its plan. -/
def State.resetFree (s : State) : Prop := s.inp.rst = false ∧ ∀ d ∈ s.hostPlan, d.rst = false

/-- t is the state k edges after s, each of the k steps having a next state. -/
def Reaches : Nat → State → State → Prop
  | 0, s, t => t = s
  | k + 1, s, t => ∃ u, step s = .next u ∧ Reaches k u t

end Sys2Proof.Machine
end

