-- ==== Sys2Proof/Certificates/Slice0/Obligations.lean ====
section
/-! DEFINITION. The statements about this model, for the provers. Each docstring names the rule of spec/ it says. -/

open Sys2Proof Sys2Proof.Machine

/-! ### The instructions: encoding, result, frame and completion -/

/-- 40_clz.md R80. The next state is s but for the response port, so nothing else changes. -/
def Obligations.ClzGivesLeadingZeroCount : Prop :=
  ∀ (a b : Word) (s : State),
    decodeCommand ⟨0#3, a, b⟩ = .ok (.clz a b) ∧
    ∃ n : Nat,
      exec (.clz a b) s = .next { s with rspValid := true, rspHi := 0#32, rspLo := BitVec.ofNat 32 n } ∧
      (a = 0#32 → n = 32) ∧
      (a ≠ 0#32 → n < 32 ∧ a.getLsbD (31 - n) = true ∧ ∀ j, 31 - n < j → a.getLsbD j = false)

/-- 41_multiply.md R90. -/
def Obligations.WmulGivesExactProduct : Prop :=
  ∀ (a b : Word) (s : State),
    decodeCommand ⟨1#3, a, b⟩ = .ok (.wmul a b) ∧
    ∃ hi lo : Word,
      exec (.wmul a b) s = .next { s with rspValid := true, rspHi := hi, rspLo := lo } ∧
      hi.toNat * 2 ^ 32 + lo.toNat = a.toNat * b.toNat

/-- 41_multiply.md R95. -/
def Obligations.TmulGivesLowWord : Prop :=
  ∀ (a b : Word) (s : State),
    decodeCommand ⟨2#3, a, b⟩ = .ok (.tmul a b) ∧
    ∃ lo : Word,
      exec (.tmul a b) s = .next { s with rspValid := true, rspHi := 0#32, rspLo := lo } ∧
      lo.toNat = a.toNat * b.toNat % 2 ^ 32

/-- 42_interpolator.md R110, with the closed form of R113 for the fraction. For every SEED, also one that breaks
10_state.md R21, the steps define the result modulo 2^32 (R115; entry 22). The last clause, outside the contract, says
R111 and 60_exceptions.md R171 in the model's reading: that `fault` is a next state with the mark and the record set
(entry 9, DEDUCED), and that they are set when the response is offered (entry 12, DEDUCED). -/
def Obligations.InterpGivesBlend : Prop :=
  ∀ (a b : Word) (s : State),
    decodeCommand ⟨3#3, a, b⟩ = .ok (.interp a b) ∧
    (∀ (e : Nat) (he : e < 32), 2 ^ e ≤ a.toNat → a.toNat < 2 ^ (e + 1) → a ≠ 0xFFFFFFFF#32 →
      ∃ yBase yNext y : Word,
        yBase = s.params.seed[e] ∧
        yNext = (if h : e < 31 then s.params.seed[e + 1] else 1#32) ∧
        y = yBase - BitVec.ofNat 32 ((yBase - yNext).toNat * ((a.toNat - 2 ^ e) * 2 ^ 16 / 2 ^ e) % 2 ^ 32 / 2 ^ 16) ∧
        exec (.interp a b) s = .next { s with rspValid := true, rspHi := 0#32, rspLo := y }) ∧
    (a = 0#32 ∨ a = 0xFFFFFFFF#32 →
      ∃ (hi lo : Word) (n : Nat),
        exec (.interp a b) s = .next
          { s with
            rspValid := true, rspHi := hi, rspLo := lo, freeCount := n
            faulted := true, record := s.record ++ [.interpDomain a] })

/-- 42_interpolator.md R111 and 60_exceptions.md R171, with the model's free words as the unspecified data (entries 9
and 11: the model's choice of form; no statement constrains Config.freeWord), and the mark and the record set at the
offer (entry 12, DEDUCED). -/
def Obligations.InterpOutsideContractDrawsFreeWords : Prop :=
  ∀ (a b : Word) (s : State), a = 0#32 ∨ a = 0xFFFFFFFF#32 →
    exec (.interp a b) s = .next
      { s with
        rspValid := true
        rspHi := Config.freeWord s.freeCount
        rspLo := Config.freeWord (s.freeCount + 1)
        freeCount := s.freeCount + 2
        faulted := true
        record := s.record ++ [.interpDomain a] }

/-- 43_newton.md R134: the six steps of R130 in closed form, for all 2^64 operand pairs. -/
def Obligations.NewtonClosedForm : Prop :=
  ∀ (y x : Word) (s : State),
    decodeCommand ⟨4#3, y, x⟩ = .ok (.newton y x) ∧
    ∃ xy2 term r : Nat,
      xy2 = x.toNat * y.toNat * y.toNat / 2 ^ 16 % 2 ^ 32 ∧
      (term : Int) = (196608 - (xy2 : Int)) % 2 ^ 32 ∧
      r = (y.toNat * term + 2 ^ 16) / 2 ^ 17 % 2 ^ 32 ∧
      exec (.newton y x) s = .next { s with rspValid := true, rspHi := 0#32, rspLo := BitVec.ofNat 32 r }

/-- 44_rsqrt.md R150: the two sentinels, and otherwise exactly one NEWTON of the INTERP response. -/
def Obligations.RsqrtIsSentinelOrOneNewtonOfInterp : Prop :=
  ∀ (a b : Word) (s : State),
    decodeCommand ⟨5#3, a, b⟩ = .ok (.rsqrt a b) ∧
    (a = 0#32 → exec (.rsqrt a b) s = .next { s with rspValid := true, rspHi := 0#32, rspLo := 0xFFFFFFFF#32 }) ∧
    (a = 0xFFFFFFFF#32 → exec (.rsqrt a b) s = .next { s with rspValid := true, rspHi := 0#32, rspLo := 1#32 }) ∧
    (a ≠ 0#32 → a ≠ 0xFFFFFFFF#32 →
      ∃ y0 y : Word,
        exec (.interp a b) s = .next { s with rspValid := true, rspHi := 0#32, rspLo := y0 } ∧
        exec (.newton y0 a) s = .next { s with rspValid := true, rspHi := 0#32, rspLo := y } ∧
        exec (.rsqrt a b) s = .next { s with rspValid := true, rspHi := 0#32, rspLo := y })

/-- 30_encoding.md R62: operand b of CLZ, INTERP and RSQRT is ignored, and both products commute. -/
def Obligations.UnusedOperandIgnoredAndProductsCommute : Prop :=
  ∀ (a b b' : Word) (s : State),
    exec (.clz a b) s = exec (.clz a b') s ∧
    exec (.interp a b) s = exec (.interp a b') s ∧
    exec (.rsqrt a b) s = exec (.rsqrt a b') s ∧
    exec (.wmul a b) s = exec (.wmul b a) s ∧
    exec (.tmul a b) s = exec (.tmul b a) s

/-- 60_exceptions.md R170, R172, 10_state.md R27 and R31: every instruction answers from every state; it changes the
response port alone, or, outside the contract of INTERP, also the mark, the record and the free-word counter
(42_interpolator.md R111, 60_exceptions.md R171). That this outcome is a next state (entry 9, DEDUCED), and that the mark
and the record are set when the response is offered (entry 12, DEDUCED), is the model's reading. -/
def Obligations.EveryInstructionAnswersFromEveryState : Prop :=
  ∀ (i : Instr) (s : State), ∃ t,
    exec i s = .next t ∧ t.rspValid = true ∧
    t.params = s.params ∧ t.inp = s.inp ∧ t.queue = s.queue ∧ t.reqReady = s.reqReady ∧ t.refused = s.refused ∧
    t.accepted = s.accepted ∧ t.answered = s.answered ∧ t.hostPlan = s.hostPlan ∧ t.blockPlan = s.blockPlan ∧
    (i.inContract = true →
      t.faulted = s.faulted ∧ t.record = s.record ∧ t.freeCount = s.freeCount ∧
      instrResponse s.params.seed i = some ⟨t.rspHi, t.rspLo⟩) ∧
    (i.inContract = false →
      t.faulted = true ∧ t.record = s.record ++ [.interpDomain i.operandA] ∧ instrResponse s.params.seed i = none)

/-! ### Bit-length classifier -/

/-- 40_clz.md R81: the binary search with its zero case counts leading zeros; without that case it gives 31 for 0. -/
def Obligations.BinarySearchCountsLeadingZeros : Prop :=
  (∀ x : Word, clzBinarySearch x = clz x) ∧
  (searchStep 1 (searchStep 2 (searchStep 4 (searchStep 8 (searchStep 16 (0, 0#32)))))).1 = 31

/-- 40_clz.md R82. -/
def Obligations.ExponentBracketsOperand : Prop :=
  ∀ x : Word, x ≠ 0#32 →
    2 ^ (31 - clz x) ≤ x.toNat ∧ x.toNat < 2 ^ (32 - clz x) ∧
    exponent x = 31 - clz x ∧ exponent x = Nat.log 2 x.toNat ∧ exponent x ≤ 31

/-! ### Multiply -/

/-- 41_multiply.md R91: the 16-bit half-split algorithm gives the words of the exact product for every input. -/
def Obligations.HalfSplitMultiplyIsExact : Prop :=
  ∀ a b : Word,
    halfSplitMul a b = wideMul a b ∧
    (halfSplitMul a b).hi.toNat * 2 ^ 32 + (halfSplitMul a b).lo.toNat = a.toNat * b.toNat

/-- 41_multiply.md R96. -/
def Obligations.TmulLowWordIsWmulLowWord : Prop :=
  ∀ (a b : Word) (s : State), ∃ t u,
    exec (.tmul a b) s = .next t ∧ exec (.wmul a b) s = .next u ∧ t.rspLo = u.rspLo

/-! ### Interpolator -/

/-- 42_interpolator.md R115: the bounds that hold under 10_state.md R21 for every x in the contract. -/
def Obligations.InterpBlendNeverWraps : Prop :=
  ∀ (seed : Vector Word 32) (x : Word), SeedOk seed → x ≠ 0#32 → x ≠ 0xFFFFFFFF#32 →
    ∃ e f yb yn : Nat,
      e = exponent x ∧ f = (fraction x e).toNat ∧ yb = (yBase seed e).toNat ∧ yn = (yNext seed e).toNat ∧
      f = (x.toNat - 2 ^ e) * 2 ^ 16 / 2 ^ e ∧ f ≤ 65535 ∧
      yn ≤ yb ∧ yb ≤ 65536 ∧
      (sub32 (yBase seed e) (yNext seed e)).toNat = yb - yn ∧ yb - yn ≤ 65535 ∧
      (yb - yn) * f ≤ 4294836225 ∧
      (truncMul (sub32 (yBase seed e) (yNext seed e)) (fraction x e)).toNat = (yb - yn) * f ∧
      (interpolate seed x).toNat = yb - (yb - yn) * f / 65536

/-- 42_interpolator.md R116. -/
def Obligations.InterpResultRange : Prop :=
  ∀ (seed : Vector Word 32) (x : Word), SeedOk seed → x ≠ 0#32 → x ≠ 0xFFFFFFFF#32 →
    (yNext seed (exponent x) < yBase seed (exponent x) →
      yNext seed (exponent x) < interpolate seed x ∧ interpolate seed x ≤ yBase seed (exponent x)) ∧
    (yNext seed (exponent x) = yBase seed (exponent x) → interpolate seed x = yBase seed (exponent x)) ∧
    (∀ (e : Nat) (he : e < 32), x.toNat = 2 ^ e → fraction x (exponent x) = 0#32 ∧ interpolate seed x = seed[e]) ∧
    1 ≤ (interpolate seed x).toNat ∧ (interpolate seed x).toNat ≤ 65536

/-! ### Newton-Raphson refiner -/

/-- 43_newton.md R131: steps 1 to 4 compute floor(x · y² / 2^16) mod 2^32. -/
def Obligations.NewtonXy2IsTruncatedSquareProduct : Prop :=
  ∀ y x : Word, (newtonXy2 y x).toNat = x.toNat * y.toNat * y.toNat / 2 ^ 16 % 2 ^ 32

/-- 43_newton.md R133: step 6 rounds to nearest and rescales, and its carry never wraps the high word. -/
def Obligations.NewtonRoundsToNearest : Prop :=
  ∀ y term : Word,
    (newtonRound y term).toNat = (y.toNat * term.toNat + 2 ^ 16) / 2 ^ 17 % 2 ^ 32 ∧
    (wideMul y term).hi.toNat + 1 < 2 ^ 32

/-- 43_newton.md R135, cases (i) to (v), with their examples. -/
def Obligations.NewtonEdgeOperands : Prop :=
  (∀ x : Word, newtonStep 0#32 x = 0#32) ∧
  (∀ y : Word, newtonXy2 y 0#32 = 0#32 ∧ newtonTerm 0#32 = 196608#32 ∧
    (newtonStep y 0#32).toNat = (3 * y.toNat + 1) / 2 % 2 ^ 32) ∧
  (∀ y x : Word, newtonXy2 y x = 196608#32 → newtonTerm (newtonXy2 y x) = 0#32 ∧ newtonStep y x = 0#32) ∧
  (∀ xy2 : Word, 196608#32 < xy2 → (newtonTerm xy2).toNat = 2 ^ 32 - (xy2.toNat - 196608)) ∧
  (∀ y x : Word, 2 ^ 48 ≤ x.toNat * y.toNat * y.toNat ↔
    (newtonXy2 y x).toNat ≠ x.toNat * y.toNat * y.toNat / 2 ^ 16) ∧
  newtonStep 0x10000#32 0#32 = 98304#32 ∧ newtonStep 0x20000#32 1#32 = 0xFFFF0000#32 ∧
  newtonStep 0xFFFFFFFF#32 0xFFFFFFFF#32 = 0x8000#32

/-- 43_newton.md R136: an exact reciprocal square root is left unchanged. -/
def Obligations.NewtonFixesExactRoots : Prop :=
  (∀ (y x : Word) (s : State), x.toNat * y.toNat * y.toNat = 2 ^ 32 →
    newtonXy2 y x = 65536#32 ∧ newtonTerm (newtonXy2 y x) = 131072#32 ∧
    exec (.newton y x) s = .next { s with rspValid := true, rspHi := 0#32, rspLo := y }) ∧
  (∀ k ≤ 15, 2 ^ (2 * k) * 2 ^ (16 - k) * 2 ^ (16 - k) = 2 ^ 32)

/-- 43_newton.md R137, the bound: y is the correctly rounded 65536/√x when |y − 65536/√x| ≤ 1/2, which is
(2y − 1)²·x ≤ 2^34 ≤ (2y + 1)²·x; NEWTON then moves y by at most one ULP, and for x = 8 by exactly one. The count of
the inputs it moves is not stated here. -/
def Obligations.NewtonMovesConvergedEstimateAtMostOneUlp : Prop :=
  (∀ y x : Word, x ≠ 0#32 → x ≠ 0xFFFFFFFF#32 →
    (2 * (y.toNat : Int) - 1) ^ 2 * (x.toNat : Int) ≤ 2 ^ 34 → 2 ^ 34 ≤ (2 * y.toNat + 1) ^ 2 * x.toNat →
    (newtonStep y x).toNat ≤ y.toNat + 1 ∧ y.toNat ≤ (newtonStep y x).toNat + 1) ∧
  newtonStep 23170#32 8#32 = 23171#32

/-- 43_newton.md R135 (vi): inside RSQRT neither wrap of NEWTON occurs, for either table of 92_eei_decisions.md D7. -/
def Obligations.RsqrtNewtonStepNeverWraps : Prop :=
  ∀ (seed : Vector Word 32) (x y0 : Word), seed = seedDefault ∨ seed = seedRound → x ≠ 0#32 → x ≠ 0xFFFFFFFF#32 →
    y0 = interpolate seed x →
    x.toNat * y0.toNat * y0.toNat < 2 ^ 48 ∧ x.toNat * y0.toNat * y0.toNat / 2 ^ 16 ≤ 196608 ∧
    (newtonTerm (newtonXy2 y0 x)).toNat = 196608 - x.toNat * y0.toNat * y0.toNat / 2 ^ 16

/-! ### Reciprocal square root -/

/-- 44_rsqrt.md R152: the sentinel for UINT32_MAX is 1 whatever SEED is, and the computed path under SEED_DEFAULT
would give 1 too. -/
def Obligations.RsqrtOfMaxIsOneEitherWay : Prop :=
  (∀ (b : Word) (s : State),
    exec (.rsqrt 0xFFFFFFFF#32 b) s = .next { s with rspValid := true, rspHi := 0#32, rspLo := 1#32 }) ∧
  interpolate seedDefault 0xFFFFFFFF#32 = 1#32 ∧ newtonXy2 1#32 0xFFFFFFFF#32 = 65535#32 ∧
  newtonTerm 65535#32 = 131073#32 ∧ newtonStep 1#32 0xFFFFFFFF#32 = 1#32

/-- 44_rsqrt.md R153: at a power of four whose seed is exact the result is exactly 1/√x in Q16.16; both tables qualify;
and the results at the odd powers of two. -/
def Obligations.RsqrtAtPowersOfTwo : Prop :=
  (∀ (seed : Vector Word 32) (k : Nat) (hk : k ≤ 15), seed[2 * k] = BitVec.ofNat 32 (2 ^ (16 - k)) →
    reciprocalSqrt seed (BitVec.ofNat 32 (4 ^ k)) = BitVec.ofNat 32 (2 ^ (16 - k)) ∧
    q16_16 (reciprocalSqrt seed (BitVec.ofNat 32 (4 ^ k))) = 1 / 2 ^ k) ∧
  (∀ seed ∈ [seedDefault, seedRound],
    (∀ k : Fin 16, seed[2 * k.val] = BitVec.ofNat 32 (2 ^ (16 - k.val))) ∧
    (List.range 16).map (fun k => reciprocalSqrt seed (BitVec.ofNat 32 (2 ^ (2 * k + 1)))) =
      [46341, 23171, 11585, 5793, 2896, 1448, 724, 362, 181, 91, 45, 23, 11, 6, 3, 1])

/-- 44_rsqrt.md R155, two of the rises it lists under SEED_DEFAULT (entry 2): RSQRT is not monotone. That no rise stands
before the one or after the other is not stated here. -/
def Obligations.RsqrtIsNotMonotone : Prop :=
  reciprocalSqrt seedDefault 5352#32 = 893#32 ∧ reciprocalSqrt seedDefault 5353#32 = 894#32 ∧
  reciprocalSqrt seedDefault 1073741823#32 = 1#32 ∧ reciprocalSqrt seedDefault 1073741824#32 = 2#32

/-- 44_rsqrt.md R154, the operands of its table for the exponents 1 to 31 in order, and its last column, RSQRT(x), under
SEED_DEFAULT (entry 2). The relative errors, and that each is the largest for its exponent, are not stated here. -/
def Obligations.RsqrtAtAccuracyTableOperands : Prop :=
  ([3, 6, 12, 23, 47, 93, 190, 389, 750, 1495, 2956, 6142, 12403, 24353, 48833, 102990, 209978, 413709, 883255,
    1540786, 3365755, 6982686, 15465485, 26608954, 55834706, 125217897, 178958792, 469766144, 954444459, 1610629120,
    2147483648] : List Word).map (reciprocalSqrt seedDefault) =
  [37719, 26671, 18859, 13622, 9529, 6774, 4739, 3312, 2385, 1689, 1201, 833, 586, 418, 295, 203, 142, 101, 69, 52, 35,
    24, 16, 12, 8, 5, 4, 2, 1, 1, 1]

/-! ### SeedTable and parameters -/

/-- 92_eei_decisions.md D7: both candidate tables meet 10_state.md R21, they differ at k = 19 only, and SEED_ROUND rounds
65536 / 2^(k/2) to nearest: (2v − 1)²·2^k ≤ 2^34 ≤ (2v + 1)²·2^k. -/
def Obligations.CandidateSeedTablesMeetConstraints : Prop :=
  SeedOk seedDefault ∧ SeedOk seedRound ∧
  (∀ k : Fin 32, seedDefault[k.val] = seedRound[k.val] ↔ k.val ≠ 19) ∧
  (∀ k : Fin 32, (2 * seedRound[k.val].toNat - 1) ^ 2 * 2 ^ k.val ≤ 2 ^ 34 ∧
    2 ^ 34 ≤ (2 * seedRound[k.val].toNat + 1) ^ 2 * 2 ^ k.val)

/-- 10_state.md R21, its derived bound: every entry of a table that meets the constraints lies in 1..65536. -/
def Obligations.SeedEntriesLieInOneTo65536 : Prop :=
  ∀ seed : Vector Word 32, SeedOk seed → ∀ k : Fin 32, 1 ≤ seed[k.val].toNat ∧ seed[k.val].toNat ≤ 65536

/-- 10_state.md R22 and R36, 70_reset_and_hazards.md R193: no step, a reset edge included, changes a parameter. -/
def Obligations.NoStepChangesParameters : Prop :=
  ∀ s t : State, step s = .next t → t.params = s.params

/-! ### Encoding -/

/-- 30_encoding.md R60, R61 and R65: every instruction's command vector decodes to it, and an instruction decoded from a
command vector encodes to that vector. -/
def Obligations.DecodeAndEncodeAgree : Prop :=
  (∀ i : Instr, decode (encode i) = .ok i) ∧ (∀ (w : CmdBits) (i : Instr), decode w = .ok i → encode i = w)

/-- 30_encoding.md R65 and R66: decoding is total, op alone selects, and exactly 6 and 7 are reserved. -/
def Obligations.OpcodeAloneSelectsInstruction : Prop :=
  ∀ c : Command,
    (c.op.toNat ≤ 5 ↔ ∃ i, decodeCommand c = .ok i) ∧
    (∀ i, decodeCommand c = .ok i → i.opcode = c.op ∧ i.operandA = c.a ∧ i.operandB = c.b) ∧
    (6 ≤ c.op.toNat → decodeCommand c = .error (.reservedOp c.op))

/-- Words written out from 30_encoding.md R60 (95_test_vectors.md P1, P3 and P4) decode to their instructions. -/
def Obligations.WrittenWordsDecode : Prop :=
  decode 0x91A28#67 = .ok (.clz 0x00012345#32 0#32) ∧
  decode 0x4D5E6F78091A2B3C1#67 = .ok (.wmul 0x12345678#32 0x9ABCDEF0#32) ∧
  decode 0x4D5E6F78091A2B3C2#67 = .ok (.tmul 0x12345678#32 0x9ABCDEF0#32) ∧
  decode 0x1B#67 = .ok (.interp 3#32 0#32) ∧
  decode 0x180004D41C#67 = .ok (.newton 0x00009A83#32 3#32) ∧
  decode 0x1F45#67 = .ok (.rsqrt 1000#32 0#32)

/-! ### The step -/

/-- A step runs the decoded instruction: where an edge leaves a command at the head of Q, nothing is offered, and the
block offers, step is exec of that instruction at the state after the edge (10_state.md R27, R29). -/
def Obligations.StepRunsDecodedInstruction : Prop :=
  ∀ (s : State) (c : Command) (rest : List Command) (i : Instr),
    s.hostBreaksHandshake = false → s.blockNext.offer = true → s.afterEdge.rspValid = false →
    s.afterEdge.queue = c :: rest → decodeCommand c = .ok i →
    step s = exec i s.afterEdge

/-- The model's own fetch point (entry 17): with a command on the request port and a ready block, the very next step
runs its instruction, and that instruction is the only one in Q. -/
def Obligations.FetchedWordRunsNext : Prop :=
  ∀ (s : State) (nbits w : Nat) (i : Instr), decodeTableWord nbits w = some i →
    step (s.withFetchWord nbits w) = exec i (s.withFetchWord nbits w).afterEdge ∧
    (s.withFetchWord nbits w).afterEdge.queue = [i.command] ∧
    (s.withFetchWord nbits w).afterEdge.params = s.params ∧
    (s.withFetchWord nbits w).afterEdge.faulted = s.faulted ∧ (s.withFetchWord nbits w).afterEdge.refused = s.refused

/-- 30_encoding.md R66, 60_exceptions.md R171: a reserved opcode at the head of Q is answered once, with data that
nothing constrains; it sets the mark refused and records the opcode. That the step goes on with a next state (entry 10,
DEDUCED), and that the mark and the record are set when the response is offered (entry 12, DEDUCED), is the model's
reading. -/
def Obligations.ReservedOpcodeIsAnsweredAndMarked : Prop :=
  ∀ (s : State) (c : Command) (rest : List Command),
    s.hostBreaksHandshake = false → s.blockNext.offer = true → s.afterEdge.rspValid = false →
    s.afterEdge.queue = c :: rest → 6 ≤ c.op.toNat →
    ∃ (hi lo : Word) (n : Nat),
      step s = .next
        { s.afterEdge with
          rspValid := true, rspHi := hi, rspLo := lo, freeCount := n
          refused := true, record := s.record ++ [.reservedOp c.op] }

/-- 10_state.md R26, R28 and R29: what one edge does to Q and which response it gives. -/
def Obligations.EdgeTransfersMoveTheQueue : Prop :=
  ∀ s : State, s.hostBreaksHandshake = false → s.inp.rst = false → ∃ t,
    step s = .next t ∧
    t.queue = (if s.rspValid && s.inp.rspReady then s.queue.tail else s.queue) ++
      (if s.inp.reqValid && s.reqReady then [⟨s.inp.reqOp, s.inp.reqA, s.inp.reqB⟩] else []) ∧
    t.answered = s.answered ++
      (if s.rspValid && s.inp.rspReady then (s.queue.take 1).map (fun c => ⟨c, ⟨s.rspHi, s.rspLo⟩⟩) else [])

/-- 10_state.md R29 and 70_reset_and_hazards.md R197: an offer that the host does not take is held unchanged, and
nothing queued is lost. -/
def Obligations.StalledResponseIsHeld : Prop :=
  ∀ s : State, s.hostBreaksHandshake = false → s.inp.rst = false → s.rspValid = true → s.inp.rspReady = false → ∃ t,
    step s = .next t ∧ t.rspValid = true ∧ t.rspHi = s.rspHi ∧ t.rspLo = s.rspLo ∧
    s.queue <+: t.queue ∧ t.answered = s.answered ∧
    t.faulted = s.faulted ∧ t.refused = s.refused ∧ t.record = s.record

/-- 70_reset_and_hazards.md R190 and R193, 10_state.md R34 and R35: a reset edge empties Q without a response and ends
the offer; the parameters and the marks stay; req_ready is 0 as long as rst stays 1. The model's choices, not these
rules': the histories accepted and answered start again (entry 16, DESIGN CHOICE), and the record stays (entry 19,
DESIGN CHOICE). -/
def Obligations.ResetEdgeDropsEverything : Prop :=
  ∀ s : State, s.hostBreaksHandshake = false → s.inp.rst = true → ∃ t,
    step s = .next t ∧ t.queue = [] ∧ t.rspValid = false ∧ t.answered = [] ∧ t.accepted = [] ∧
    (t.inp.rst = true → t.reqReady = false) ∧
    t.params = s.params ∧ t.faulted = s.faulted ∧ t.refused = s.refused ∧ t.record = s.record

/-- 10_state.md R35, the values it gives for the state after reset: Q empty, rsp_valid 0, the marks false. -/
def Obligations.ResetStateIsEmptyAndUnmarked : Prop :=
  State.reset.queue = [] ∧ State.reset.rspValid = false ∧ State.reset.faulted = false ∧ State.reset.refused = false ∧
  State.reset.inp.rst = false

/-- The model's choice (entries 2, 3 and 4): the parameters that State.reset carries meet every constraint the spec puts
on parameters (10_state.md R21, R28; 70_reset_and_hazards.md R200). -/
def Obligations.ResetParametersMeetConstraints : Prop := State.reset.params.Ok

/-- 70_reset_and_hazards.md R196 (a), 93_implementation_defined.md: a step stops exactly on a host that does not keep an
unaccepted request, and it never refuses. -/
def Obligations.StepStopsExactlyOnBrokenHandshake : Prop :=
  ∀ s : State,
    (step s = .fault .hostBrokeHandshake ↔
      s.inp.reqValid = true ∧ ¬ (s.inp.rst = false ∧ s.reqReady = true) ∧
      ∃ d rest, s.hostPlan = d :: rest ∧
        ¬ (d.reqValid = true ∧ d.reqOp = s.inp.reqOp ∧ d.reqA = s.inp.reqA ∧ d.reqB = s.inp.reqB)) ∧
    ((∃ t, step s = .next t) ∨ step s = .fault .hostBrokeHandshake)

/-! ### The marks -/

/-- 10_state.md R34: no step clears a mark. That no step, a reset edge included, forgets a recorded outcome is the
model's choice (entry 19, DESIGN CHOICE): R34 speaks of the marks. -/
def Obligations.NoStepClearsMarks : Prop :=
  ∀ s t : State, step s = .next t →
    (s.faulted = true → t.faulted = true) ∧ (s.refused = true → t.refused = true) ∧ s.record <+: t.record

/-- 60_exceptions.md R171, R172 and R174, 10_state.md R34: a step records at most one outcome, that of the head command
whose response it newly offers, and sets exactly that outcome's mark; every other step leaves marks and record. That
this is the step that first offers the response, before its transfer, is the model's reading (entry 12, DEDUCED). -/
def Obligations.StepRecordsOnlyTheOutcomeItOffers : Prop :=
  ∀ s t : State, step s = .next t →
    (t.record = s.record ∧ t.faulted = s.faulted ∧ t.refused = s.refused ∧
      (t.rspValid = true → s.transfers.rspValid = false → ∃ c rest, t.queue = c :: rest ∧ commandOutcome c = none)) ∨
    (∃ c rest o, s.transfers.rspValid = false ∧ t.rspValid = true ∧ t.queue = c :: rest ∧
      commandOutcome c = some o ∧ t.record = s.record ++ [o] ∧
      t.faulted = (s.faulted || o.isFault) ∧ t.refused = (s.refused || o.isRefusal))

/-! ### Invariant, refinement, liveness, independence -/

/-- The interface invariant holds at reset, and at the start of every run. -/
def Obligations.InterfaceInvariantHoldsAtReset : Prop :=
  Inv State.reset ∧ ∀ p hp bp, Inv (State.start p hp bp)

/-- Every step keeps the interface invariant, from every state that has it (10_state.md R28, R29, R34, R35). Its clauses
on the record and on the histories rest on the model's fields of entries 12, 16 and 19. -/
def Obligations.EveryStepKeepsInterfaceInvariant : Prop :=
  ∀ s t : State, Inv s → step s = .next t → Inv t

/-- 70_reset_and_hazards.md R201: every rising edge makes only moves of the transaction-level model: Reset, or Respond
and Accept as the signals transfer, each with its precondition met. -/
def Obligations.EveryEdgeRefinesTransactionMoves : Prop :=
  ∀ s t : State, Inv s → step s = .next t → txnRun s.params s.edgeMoves s.txn = some t.txn

/-- 20_memory.md R47 (a), 10_state.md R29, over runs: the n-th response since reset answers the n-th request since
reset, with the response of that command. -/
def Obligations.NthResponseAnswersNthRequest : Prop :=
  ∀ (p : Params) (hp : List HostDrive) (bp : List BlockChoice) (k : Nat) (s : State),
    Reaches k (State.start p hp bp) s →
    ∀ (n : Nat) (x : Answer), s.answered[n]? = some x →
      s.accepted[n]? = some x.cmd ∧ ∀ r, commandResponse p.seed x.cmd = some r → x.rsp = r

/-- 00_scope.md R18, 20_memory.md R47 (b): in two runs of blocks with the same SEED, whatever the hosts, the timing and
the other commands, a command that has a defined response gets the same response. -/
def Obligations.ResponsesDependOnCommandAndSeedAlone : Prop :=
  ∀ (p p' : Params) (hp hp' : List HostDrive) (bp bp' : List BlockChoice) (k k' : Nat) (s t : State),
    p.seed = p'.seed →
    Reaches k (State.start p hp bp) s → Reaches k' (State.start p' hp' bp') t →
    ∀ x ∈ s.answered, ∀ y ∈ t.answered, x.cmd = y.cmd → commandOutcome x.cmd = none → x.rsp = y.rsp

/-- 10_state.md R34 over runs: in a run with neither mark set, every response given is the response of its command. -/
def Obligations.UnmarkedRunGivesOnlyDefinedResponses : Prop :=
  ∀ (p : Params) (hp : List HostDrive) (bp : List BlockChoice) (k : Nat) (s : State),
    Reaches k (State.start p hp bp) s → s.unmarked →
    ∀ x ∈ s.answered, commandResponse p.seed x.cmd = some x.rsp

/-- 10_state.md R30, first sentence: as long as rst stays 0, the oldest command gets its response offered within a bound:
here one edge more than the block's plan of free choices is long (entry 7). -/
def Obligations.OldestCommandIsOfferedWithinBound : Prop :=
  ∀ s t : State, s.resetFree → s.queue ≠ [] → Reaches (s.blockPlan.length + 1) s t →
    ∃ j u, j ≤ s.blockPlan.length + 1 ∧ Reaches j s u ∧ u.rspValid = true ∧ u.queue.head? = s.queue.head?

/-- 10_state.md R30, second sentence: as long as rst stays 0, req_ready is raised or Q is full within the same bound. -/
def Obligations.ReadyIsRaisedWithinBound : Prop :=
  ∀ s t : State, s.resetFree → Reaches (s.blockPlan.length + 1) s t →
    t.reqReady = true ∨ t.params.outstanding ≤ t.queue.length
end

