-- ==== Sys2Proof/Laws/State.lean ====
section
/-! SUPPORT. One lemma per field of State and per update, true by definition, so that no proof unfolds an update. -/

namespace Sys2Proof.Machine

/-! ### State.offer -/

@[simp] theorem State.offer_params (s : State) (hi lo : Word) : (s.offer hi lo).params = s.params := rfl
@[simp] theorem State.offer_inp (s : State) (hi lo : Word) : (s.offer hi lo).inp = s.inp := rfl
@[simp] theorem State.offer_queue (s : State) (hi lo : Word) : (s.offer hi lo).queue = s.queue := rfl
@[simp] theorem State.offer_reqReady (s : State) (hi lo : Word) : (s.offer hi lo).reqReady = s.reqReady := rfl
@[simp] theorem State.offer_rspValid (s : State) (hi lo : Word) : (s.offer hi lo).rspValid = true := rfl
@[simp] theorem State.offer_rspHi (s : State) (hi lo : Word) : (s.offer hi lo).rspHi = hi := rfl
@[simp] theorem State.offer_rspLo (s : State) (hi lo : Word) : (s.offer hi lo).rspLo = lo := rfl
@[simp] theorem State.offer_faulted (s : State) (hi lo : Word) : (s.offer hi lo).faulted = s.faulted := rfl
@[simp] theorem State.offer_refused (s : State) (hi lo : Word) : (s.offer hi lo).refused = s.refused := rfl
@[simp] theorem State.offer_record (s : State) (hi lo : Word) : (s.offer hi lo).record = s.record := rfl
@[simp] theorem State.offer_accepted (s : State) (hi lo : Word) : (s.offer hi lo).accepted = s.accepted := rfl
@[simp] theorem State.offer_answered (s : State) (hi lo : Word) : (s.offer hi lo).answered = s.answered := rfl
@[simp] theorem State.offer_freeCount (s : State) (hi lo : Word) : (s.offer hi lo).freeCount = s.freeCount := rfl
@[simp] theorem State.offer_hostPlan (s : State) (hi lo : Word) : (s.offer hi lo).hostPlan = s.hostPlan := rfl
@[simp] theorem State.offer_blockPlan (s : State) (hi lo : Word) : (s.offer hi lo).blockPlan = s.blockPlan := rfl

/-! ### State.offerUnspecified -/

@[simp] theorem State.offerUnspecified_params (s : State) : s.offerUnspecified.params = s.params := rfl
@[simp] theorem State.offerUnspecified_inp (s : State) : s.offerUnspecified.inp = s.inp := rfl
@[simp] theorem State.offerUnspecified_queue (s : State) : s.offerUnspecified.queue = s.queue := rfl
@[simp] theorem State.offerUnspecified_reqReady (s : State) : s.offerUnspecified.reqReady = s.reqReady := rfl
@[simp] theorem State.offerUnspecified_rspValid (s : State) : s.offerUnspecified.rspValid = true := rfl
@[simp] theorem State.offerUnspecified_rspHi (s : State) :
    s.offerUnspecified.rspHi = Config.freeWord s.freeCount :=
  rfl
@[simp] theorem State.offerUnspecified_rspLo (s : State) :
    s.offerUnspecified.rspLo = Config.freeWord (s.freeCount + 1) :=
  rfl
@[simp] theorem State.offerUnspecified_faulted (s : State) : s.offerUnspecified.faulted = s.faulted := rfl
@[simp] theorem State.offerUnspecified_refused (s : State) : s.offerUnspecified.refused = s.refused := rfl
@[simp] theorem State.offerUnspecified_record (s : State) : s.offerUnspecified.record = s.record := rfl
@[simp] theorem State.offerUnspecified_accepted (s : State) : s.offerUnspecified.accepted = s.accepted := rfl
@[simp] theorem State.offerUnspecified_answered (s : State) : s.offerUnspecified.answered = s.answered := rfl
@[simp] theorem State.offerUnspecified_freeCount (s : State) : s.offerUnspecified.freeCount = s.freeCount + 2 := rfl
@[simp] theorem State.offerUnspecified_hostPlan (s : State) : s.offerUnspecified.hostPlan = s.hostPlan := rfl
@[simp] theorem State.offerUnspecified_blockPlan (s : State) : s.offerUnspecified.blockPlan = s.blockPlan := rfl

/-! ### State.offerNothing -/

@[simp] theorem State.offerNothing_params (s : State) : s.offerNothing.params = s.params := rfl
@[simp] theorem State.offerNothing_inp (s : State) : s.offerNothing.inp = s.inp := rfl
@[simp] theorem State.offerNothing_queue (s : State) : s.offerNothing.queue = s.queue := rfl
@[simp] theorem State.offerNothing_reqReady (s : State) : s.offerNothing.reqReady = s.reqReady := rfl
@[simp] theorem State.offerNothing_rspValid (s : State) : s.offerNothing.rspValid = false := rfl
@[simp] theorem State.offerNothing_rspHi (s : State) : s.offerNothing.rspHi = Config.freeWord s.freeCount := rfl
@[simp] theorem State.offerNothing_rspLo (s : State) : s.offerNothing.rspLo = Config.freeWord (s.freeCount + 1) := rfl
@[simp] theorem State.offerNothing_faulted (s : State) : s.offerNothing.faulted = s.faulted := rfl
@[simp] theorem State.offerNothing_refused (s : State) : s.offerNothing.refused = s.refused := rfl
@[simp] theorem State.offerNothing_record (s : State) : s.offerNothing.record = s.record := rfl
@[simp] theorem State.offerNothing_accepted (s : State) : s.offerNothing.accepted = s.accepted := rfl
@[simp] theorem State.offerNothing_answered (s : State) : s.offerNothing.answered = s.answered := rfl
@[simp] theorem State.offerNothing_freeCount (s : State) : s.offerNothing.freeCount = s.freeCount + 2 := rfl
@[simp] theorem State.offerNothing_hostPlan (s : State) : s.offerNothing.hostPlan = s.hostPlan := rfl
@[simp] theorem State.offerNothing_blockPlan (s : State) : s.offerNothing.blockPlan = s.blockPlan := rfl

/-! ### State.markFault -/

@[simp] theorem State.markFault_params (s : State) (a : Word) : (s.markFault a).params = s.params := rfl
@[simp] theorem State.markFault_inp (s : State) (a : Word) : (s.markFault a).inp = s.inp := rfl
@[simp] theorem State.markFault_queue (s : State) (a : Word) : (s.markFault a).queue = s.queue := rfl
@[simp] theorem State.markFault_reqReady (s : State) (a : Word) : (s.markFault a).reqReady = s.reqReady := rfl
@[simp] theorem State.markFault_rspValid (s : State) (a : Word) : (s.markFault a).rspValid = s.rspValid := rfl
@[simp] theorem State.markFault_rspHi (s : State) (a : Word) : (s.markFault a).rspHi = s.rspHi := rfl
@[simp] theorem State.markFault_rspLo (s : State) (a : Word) : (s.markFault a).rspLo = s.rspLo := rfl
@[simp] theorem State.markFault_faulted (s : State) (a : Word) : (s.markFault a).faulted = true := rfl
@[simp] theorem State.markFault_refused (s : State) (a : Word) : (s.markFault a).refused = s.refused := rfl
@[simp] theorem State.markFault_record (s : State) (a : Word) :
    (s.markFault a).record = s.record ++ [.interpDomain a] :=
  rfl
@[simp] theorem State.markFault_accepted (s : State) (a : Word) : (s.markFault a).accepted = s.accepted := rfl
@[simp] theorem State.markFault_answered (s : State) (a : Word) : (s.markFault a).answered = s.answered := rfl
@[simp] theorem State.markFault_freeCount (s : State) (a : Word) : (s.markFault a).freeCount = s.freeCount := rfl
@[simp] theorem State.markFault_hostPlan (s : State) (a : Word) : (s.markFault a).hostPlan = s.hostPlan := rfl
@[simp] theorem State.markFault_blockPlan (s : State) (a : Word) : (s.markFault a).blockPlan = s.blockPlan := rfl

/-! ### State.markRefused -/

@[simp] theorem State.markRefused_params (s : State) (op : Opcode) : (s.markRefused op).params = s.params := rfl
@[simp] theorem State.markRefused_inp (s : State) (op : Opcode) : (s.markRefused op).inp = s.inp := rfl
@[simp] theorem State.markRefused_queue (s : State) (op : Opcode) : (s.markRefused op).queue = s.queue := rfl
@[simp] theorem State.markRefused_reqReady (s : State) (op : Opcode) : (s.markRefused op).reqReady = s.reqReady := rfl
@[simp] theorem State.markRefused_rspValid (s : State) (op : Opcode) : (s.markRefused op).rspValid = s.rspValid := rfl
@[simp] theorem State.markRefused_rspHi (s : State) (op : Opcode) : (s.markRefused op).rspHi = s.rspHi := rfl
@[simp] theorem State.markRefused_rspLo (s : State) (op : Opcode) : (s.markRefused op).rspLo = s.rspLo := rfl
@[simp] theorem State.markRefused_faulted (s : State) (op : Opcode) : (s.markRefused op).faulted = s.faulted := rfl
@[simp] theorem State.markRefused_refused (s : State) (op : Opcode) : (s.markRefused op).refused = true := rfl
@[simp] theorem State.markRefused_record (s : State) (op : Opcode) :
    (s.markRefused op).record = s.record ++ [.reservedOp op] :=
  rfl
@[simp] theorem State.markRefused_accepted (s : State) (op : Opcode) : (s.markRefused op).accepted = s.accepted := rfl
@[simp] theorem State.markRefused_answered (s : State) (op : Opcode) : (s.markRefused op).answered = s.answered := rfl
@[simp] theorem State.markRefused_freeCount (s : State) (op : Opcode) :
    (s.markRefused op).freeCount = s.freeCount :=
  rfl
@[simp] theorem State.markRefused_hostPlan (s : State) (op : Opcode) : (s.markRefused op).hostPlan = s.hostPlan := rfl
@[simp] theorem State.markRefused_blockPlan (s : State) (op : Opcode) :
    (s.markRefused op).blockPlan = s.blockPlan :=
  rfl

/-! ### State.resetEdge -/

@[simp] theorem State.resetEdge_params (s : State) : s.resetEdge.params = s.params := rfl
@[simp] theorem State.resetEdge_inp (s : State) : s.resetEdge.inp = s.inp := rfl
@[simp] theorem State.resetEdge_queue (s : State) : s.resetEdge.queue = [] := rfl
@[simp] theorem State.resetEdge_reqReady (s : State) : s.resetEdge.reqReady = s.reqReady := rfl
@[simp] theorem State.resetEdge_rspValid (s : State) : s.resetEdge.rspValid = false := rfl
@[simp] theorem State.resetEdge_rspHi (s : State) : s.resetEdge.rspHi = s.rspHi := rfl
@[simp] theorem State.resetEdge_rspLo (s : State) : s.resetEdge.rspLo = s.rspLo := rfl
@[simp] theorem State.resetEdge_faulted (s : State) : s.resetEdge.faulted = s.faulted := rfl
@[simp] theorem State.resetEdge_refused (s : State) : s.resetEdge.refused = s.refused := rfl
@[simp] theorem State.resetEdge_record (s : State) : s.resetEdge.record = s.record := rfl
@[simp] theorem State.resetEdge_accepted (s : State) : s.resetEdge.accepted = [] := rfl
@[simp] theorem State.resetEdge_answered (s : State) : s.resetEdge.answered = [] := rfl
@[simp] theorem State.resetEdge_freeCount (s : State) : s.resetEdge.freeCount = s.freeCount := rfl
@[simp] theorem State.resetEdge_hostPlan (s : State) : s.resetEdge.hostPlan = s.hostPlan := rfl
@[simp] theorem State.resetEdge_blockPlan (s : State) : s.resetEdge.blockPlan = s.blockPlan := rfl

/-! ### State.afterEdge -/

@[simp] theorem State.afterEdge_params (s : State) : s.afterEdge.params = s.transfers.params := rfl
@[simp] theorem State.afterEdge_inp (s : State) : s.afterEdge.inp = s.hostNext := rfl
@[simp] theorem State.afterEdge_queue (s : State) : s.afterEdge.queue = s.transfers.queue := rfl
@[simp] theorem State.afterEdge_reqReady (s : State) :
    s.afterEdge.reqReady =
    (s.blockNext.raiseReady && !s.hostNext.rst && decide (s.transfers.queue.length < s.params.outstanding)) :=
  rfl
@[simp] theorem State.afterEdge_rspValid (s : State) : s.afterEdge.rspValid = s.transfers.rspValid := rfl
@[simp] theorem State.afterEdge_rspHi (s : State) : s.afterEdge.rspHi = s.transfers.rspHi := rfl
@[simp] theorem State.afterEdge_rspLo (s : State) : s.afterEdge.rspLo = s.transfers.rspLo := rfl
@[simp] theorem State.afterEdge_faulted (s : State) : s.afterEdge.faulted = s.transfers.faulted := rfl
@[simp] theorem State.afterEdge_refused (s : State) : s.afterEdge.refused = s.transfers.refused := rfl
@[simp] theorem State.afterEdge_record (s : State) : s.afterEdge.record = s.transfers.record := rfl
@[simp] theorem State.afterEdge_accepted (s : State) : s.afterEdge.accepted = s.transfers.accepted := rfl
@[simp] theorem State.afterEdge_answered (s : State) : s.afterEdge.answered = s.transfers.answered := rfl
@[simp] theorem State.afterEdge_freeCount (s : State) : s.afterEdge.freeCount = s.transfers.freeCount := rfl
@[simp] theorem State.afterEdge_hostPlan (s : State) : s.afterEdge.hostPlan = s.hostPlan.tail := rfl
@[simp] theorem State.afterEdge_blockPlan (s : State) : s.afterEdge.blockPlan = s.blockPlan.tail := rfl

end Sys2Proof.Machine
end

