-- ==== Sys2Proof/Laws/Ops.lean ====
section
/-! SUPPORT. For each shared operation, once, what it can do. Later proofs cite these and do not unfold it. -/

namespace Sys2Proof.Machine

/-! ### The transfers -/

theorem State.requestTransfer_iff (s : State) :
    s.requestTransfer = true ↔ s.inp.rst = false ∧ s.inp.reqValid = true ∧ s.reqReady = true := by
  simp [State.requestTransfer, and_assoc]

theorem State.responseTransfer_iff (s : State) :
    s.responseTransfer = true ↔ s.inp.rst = false ∧ s.rspValid = true ∧ s.inp.rspReady = true := by
  simp [State.responseTransfer, and_assoc]

/-- A response transfer ends the offer, removes the head of Q and gives its response; without one, nothing changes. -/
theorem State.takeResponse_cases (s : State) :
    (s.responseTransfer = false ∧ s.takeResponse = s) ∨
    (s.responseTransfer = true ∧ s.queue = [] ∧ s.takeResponse = { s with rspValid := false }) ∨
    (s.responseTransfer = true ∧ ∃ c rest, s.queue = c :: rest ∧
      s.takeResponse =
        { s with queue := rest, rspValid := false, answered := s.answered ++ [⟨c, ⟨s.rspHi, s.rspLo⟩⟩] }) := by
  unfold State.takeResponse
  split
  · next h =>
    split
    · next hq => exact .inr (.inl ⟨h, hq, rfl⟩)
    · next c rest hq => exact .inr (.inr ⟨h, c, rest, hq, rfl⟩)
  · next h => exact .inl ⟨by simpa using h, rfl⟩

/-- Taking a response leaves the request port as it was. -/
theorem State.takeResponse_request (s : State) :
    s.takeResponse.requestTransfer = s.requestTransfer ∧ s.takeResponse.requested = s.requested := by
  rcases s.takeResponse_cases with ⟨_, h⟩ | ⟨_, _, h⟩ | ⟨_, c, rest, _, h⟩ <;> rw [h] <;> exact ⟨rfl, rfl⟩

/-- A request transfer appends the requested command to Q and to the history; without one, nothing changes. -/
theorem State.takeRequest_cases (s : State) :
    (s.requestTransfer = false ∧ s.takeRequest = s) ∨
    (s.requestTransfer = true ∧ s.takeRequest =
      { s with queue := s.queue ++ [s.requested], accepted := s.accepted ++ [s.requested] }) := by
  unfold State.takeRequest
  split
  · next h => exact .inr ⟨h, rfl⟩
  · next h => exact .inl ⟨by simpa using h, rfl⟩

/-- What an edge does: it resets, or it takes the response and the request that the signals transfer. -/
theorem State.transfers_cases (s : State) :
    (s.inp.rst = true ∧ s.transfers = s.resetEdge) ∨
    (s.inp.rst = false ∧ s.transfers = s.takeResponse.takeRequest) := by
  unfold State.transfers
  split
  · next h => exact .inl ⟨h, rfl⟩
  · next h => exact .inr ⟨by simpa using h, rfl⟩

/-- An edge's transfers touch only Q, rsp_valid and the two histories. -/
theorem State.transfers_frame (s : State) :
    ∃ q v ac an, s.transfers = { s with queue := q, rspValid := v, accepted := ac, answered := an } := by
  rcases s.transfers_cases with ⟨_, h⟩ | ⟨_, h⟩
  · exact ⟨[], false, [], [], h⟩
  · rw [h]
    rcases s.takeResponse.takeRequest_cases with ⟨_, h2⟩ | ⟨_, h2⟩ <;> rw [h2] <;>
      rcases s.takeResponse_cases with ⟨_, h1⟩ | ⟨_, _, h1⟩ | ⟨_, c, rest, _, h1⟩ <;> rw [h1] <;>
      exact ⟨_, _, _, _, rfl⟩

/-- The four fields that the transfers of an edge touch, in closed form. -/
theorem State.transfers_fields (s : State) :
    s.transfers.rspValid = (!s.inp.rst && s.rspValid && !s.inp.rspReady) ∧
    s.transfers.queue = (if s.inp.rst then [] else
      (if s.responseTransfer then s.queue.tail else s.queue) ++ (if s.requestTransfer then [s.requested] else [])) ∧
    s.transfers.accepted = (if s.inp.rst then [] else
      s.accepted ++ (if s.requestTransfer then [s.requested] else [])) ∧
    s.transfers.answered = (if s.inp.rst then [] else
      s.answered ++ (if s.responseTransfer then (s.queue.take 1).map (fun c => ⟨c, ⟨s.rspHi, s.rspLo⟩⟩) else [])) := by
  rcases s.transfers_cases with ⟨hr, h⟩ | ⟨hr, h⟩
  · rw [h]
    simp [hr]
  · obtain ⟨e1, e2⟩ := s.takeResponse_request
    have hv : s.responseTransfer = (s.rspValid && s.inp.rspReady) := by simp [State.responseTransfer, hr]
    rw [h, hr]
    rcases s.takeResponse.takeRequest_cases with ⟨h1, h2⟩ | ⟨h1, h2⟩ <;> rw [h2, ← e1, ← e2, h1] <;>
      rcases s.takeResponse_cases with ⟨h3, h4⟩ | ⟨h3, hq, h4⟩ | ⟨h3, c, rest, hq, h4⟩ <;> rw [h4, h3] <;>
      (try rw [hq]) <;> rw [hv] at h3 <;>
      cases hs : s.rspValid <;> simp_all

@[simp] theorem State.transfers_params (s : State) : s.transfers.params = s.params := by
  obtain ⟨_, _, _, _, h⟩ := s.transfers_frame; rw [h]
@[simp] theorem State.transfers_inp (s : State) : s.transfers.inp = s.inp := by
  obtain ⟨_, _, _, _, h⟩ := s.transfers_frame; rw [h]
@[simp] theorem State.transfers_reqReady (s : State) : s.transfers.reqReady = s.reqReady := by
  obtain ⟨_, _, _, _, h⟩ := s.transfers_frame; rw [h]
@[simp] theorem State.transfers_rspHi (s : State) : s.transfers.rspHi = s.rspHi := by
  obtain ⟨_, _, _, _, h⟩ := s.transfers_frame; rw [h]
@[simp] theorem State.transfers_rspLo (s : State) : s.transfers.rspLo = s.rspLo := by
  obtain ⟨_, _, _, _, h⟩ := s.transfers_frame; rw [h]
@[simp] theorem State.transfers_faulted (s : State) : s.transfers.faulted = s.faulted := by
  obtain ⟨_, _, _, _, h⟩ := s.transfers_frame; rw [h]
@[simp] theorem State.transfers_refused (s : State) : s.transfers.refused = s.refused := by
  obtain ⟨_, _, _, _, h⟩ := s.transfers_frame; rw [h]
@[simp] theorem State.transfers_record (s : State) : s.transfers.record = s.record := by
  obtain ⟨_, _, _, _, h⟩ := s.transfers_frame; rw [h]
@[simp] theorem State.transfers_freeCount (s : State) : s.transfers.freeCount = s.freeCount := by
  obtain ⟨_, _, _, _, h⟩ := s.transfers_frame; rw [h]
@[simp] theorem State.transfers_hostPlan (s : State) : s.transfers.hostPlan = s.hostPlan := by
  obtain ⟨_, _, _, _, h⟩ := s.transfers_frame; rw [h]
@[simp] theorem State.transfers_blockPlan (s : State) : s.transfers.blockPlan = s.blockPlan := by
  obtain ⟨_, _, _, _, h⟩ := s.transfers_frame; rw [h]

/-! ### Decoding and answering -/

/-- Decoding is a rejection of a reserved opcode, or one of the six instructions with the command's own operands. -/
theorem decodeCommand_cases (c : Command) :
    (6 ≤ c.op.toNat ∧ decodeCommand c = .error (.reservedOp c.op)) ∨
    (∃ i : Instr, c = i.command ∧ decodeCommand c = .ok i) := by
  obtain ⟨op, a, b⟩ := c
  have h : ∀ o : BitVec 3, o = 0#3 ∨ o = 1#3 ∨ o = 2#3 ∨ o = 3#3 ∨ o = 4#3 ∨ o = 5#3 ∨ o = 6#3 ∨ o = 7#3 := by decide
  rcases h op with h | h | h | h | h | h | h | h <;> subst h
  · exact .inr ⟨.clz a b, rfl, rfl⟩
  · exact .inr ⟨.wmul a b, rfl, rfl⟩
  · exact .inr ⟨.tmul a b, rfl, rfl⟩
  · exact .inr ⟨.interp a b, rfl, rfl⟩
  · exact .inr ⟨.newton a b, rfl, rfl⟩
  · exact .inr ⟨.rsqrt a b, rfl, rfl⟩
  · exact .inl ⟨Nat.le_refl 6, rfl⟩
  · exact .inl ⟨Nat.le_succ 6, rfl⟩

/-- Every instruction answers: with its response, or, outside its contract, with unspecified data and the mark. -/
theorem exec_cases (i : Instr) (s : State) :
    (∃ r, instrResponse s.params.seed i = some r ∧ i.inContract = true ∧ exec i s = .next (s.offer r.hi r.lo)) ∨
    (∃ a b, i = .interp a b ∧ interpInContract a = false ∧ instrResponse s.params.seed i = none ∧
      exec i s = .next (s.offerUnspecified.markFault a)) := by
  cases i with
  | interp a b =>
    cases h : interpInContract a
    · exact .inr ⟨a, b, rfl, h, by simp [instrResponse, h], by simp [exec, execInterp, operandX, h]⟩
    · exact .inl ⟨_, by simp only [instrResponse, h]; rfl, by simpa [Instr.inContract] using h,
        by simp [exec, execInterp, operandX, h]⟩
  | clz a b => exact .inl ⟨_, rfl, rfl, rfl⟩
  | wmul a b => exact .inl ⟨_, rfl, rfl, rfl⟩
  | tmul a b => exact .inl ⟨_, rfl, rfl, rfl⟩
  | newton a b => exact .inl ⟨_, rfl, rfl, rfl⟩
  | rsqrt a b => exact .inl ⟨_, rfl, rfl, rfl⟩

/-- Every command is answered: with F's response and no outcome, or with unspecified data and its one outcome. -/
theorem answerCommand_cases (c : Command) (s : State) :
    (∃ r, commandResponse s.params.seed c = some r ∧ commandOutcome c = none ∧
      answerCommand c s = .next (s.offer r.hi r.lo)) ∨
    (∃ o, commandResponse s.params.seed c = none ∧ commandOutcome c = some o ∧
      answerCommand c s = .next (s.offerUnspecified.markOutcome o)) := by
  rcases decodeCommand_cases c with ⟨_, h⟩ | ⟨i, _, h⟩
  · exact .inr ⟨.reservedOp c.op, by simp [commandResponse, h], by simp [commandOutcome, h],
      by simp [answerCommand, h, State.markOutcome]⟩
  · rcases exec_cases i s with ⟨r, hr, hc, he⟩ | ⟨a, b, rfl, hc, hr, he⟩
    · refine .inl ⟨r, by simpa [commandResponse, h] using hr, ?_, by simpa [answerCommand, h] using he⟩
      cases i <;> simp_all [commandOutcome, Instr.inContract]
    · exact .inr ⟨.interpDomain a, by simpa [commandResponse, h] using hr, by simp [commandOutcome, h, hc],
        by simpa [answerCommand, h, State.markOutcome] using he⟩

/-- The response port after an edge: an offer stays, or nothing is offered, or the head of Q is answered. -/
theorem drivePort_cases (offer : Bool) (s : State) :
    (s.rspValid = true ∧ drivePort offer s = .next s) ∨
    (s.rspValid = false ∧ (s.queue = [] ∨ offer = false) ∧ drivePort offer s = .next s.offerNothing) ∨
    (s.rspValid = false ∧ offer = true ∧ ∃ c rest, s.queue = c :: rest ∧ drivePort offer s = answerCommand c s) := by
  unfold drivePort
  cases hv : s.rspValid
  · right
    cases hq : s.queue with
    | nil => exact .inl ⟨rfl, .inl rfl, by simp⟩
    | cons c rest =>
      cases offer
      · exact .inl ⟨rfl, .inr rfl, by simp⟩
      · exact .inr ⟨rfl, rfl, c, rest, rfl, by simp⟩
  · exact .inl ⟨rfl, by simp⟩

/-- A step stops on a broken handshake, or drives the response port after the edge. -/
theorem step_cases (s : State) :
    (s.hostBreaksHandshake = true ∧ step s = .fault .hostBrokeHandshake) ∨
    (s.hostBreaksHandshake = false ∧ step s = drivePort s.blockNext.offer s.afterEdge) := by
  unfold step
  split
  · next h => exact .inl ⟨h, rfl⟩
  · next h => exact .inr ⟨by simpa using h, rfl⟩

/-! ### Arithmetic -/

/-- The two words of the widening multiply make up the exact product. -/
theorem wideMul_exact (a b : Word) :
    (wideMul a b).hi.toNat * 2 ^ 32 + (wideMul a b).lo.toNat = a.toNat * b.toNat := by
  have ha := a.isLt
  have hb := b.isLt
  have hp : a.toNat * b.toNat / 2 ^ 32 < 2 ^ 32 := by
    rw [Nat.div_lt_iff_lt_mul (by norm_num)]
    nlinarith
  simp only [wideMul, product, BitVec.toNat_ofNat, Nat.mod_mod, Nat.mod_eq_of_lt hp]
  omega

theorem truncMul_toNat (a b : Word) : (truncMul a b).toNat = a.toNat * b.toNat % 2 ^ 32 := by
  simp [truncMul, product]

@[simp] theorem add32_toNat (u v : Word) : (add32 u v).toNat = (u.toNat + v.toNat) % 2 ^ 32 := by
  simp [add32]

@[simp] theorem sub32_toNat (u v : Word) : (sub32 u v).toNat = (2 ^ 32 - v.toNat + u.toNat) % 2 ^ 32 := by
  simp [sub32, BitVec.toNat_sub]

@[simp] theorem shl32_toNat (v : Word) (n : Nat) : (shl32 v n).toNat = v.toNat * 2 ^ n % 2 ^ 32 := by
  simp [shl32, Nat.shiftLeft_eq]

@[simp] theorem shr32_toNat (v : Word) (n : Nat) : (shr32 v n).toNat = v.toNat / 2 ^ n := by
  simp [shr32, Nat.shiftRight_eq_div_pow]

/-- Counting from bit n − 1 down never passes n. -/
theorem zerosFrom_le (x : Word) (n : Nat) : zerosFrom x n ≤ n := by
  induction n with
  | zero => simp [zerosFrom]
  | succ n ih => unfold zerosFrom; split <;> omega

end Sys2Proof.Machine
end

