-- ==== Sys2Proof/Laws/PerInstr.lean ====
section
/-! SUPPORT. A statement for every instruction, made per constructor: the fields of its command vector stand where the
opcode table puts them. -/

namespace Sys2Proof.Laws

/-- The three fields of two appends, lowest first. -/
theorem extract_append {m k n : Nat} (b : BitVec m) (a : BitVec k) (o : BitVec n) :
    (b ++ a ++ o).extractLsb' 0 n = o ∧ (b ++ a ++ o).extractLsb' n k = a ∧
      (b ++ a ++ o).extractLsb' (n + k) m = b := by
  refine ⟨?_, ?_, ?_⟩ <;> ext i hi
  · simp [BitVec.getLsbD_append, hi]
  · simp [BitVec.getLsbD_append, hi]
  · simp [BitVec.getLsbD_append, hi, show ¬ n + k + i < n by omega, show ¬ n + k + i - n < k by omega,
      show n + k + i - n - k = i by omega]

/-- The fields of a packed command are its opcode and its operands. -/
theorem unpack_pack (c : Command) : unpack (pack c) = c := by
  obtain ⟨op, a, b⟩ := c
  obtain ⟨h0, h1, h2⟩ := extract_append b a op
  exact congr (congr (congrArg Command.mk h0) h1) h2

/-- In the command vector of i, bits 2:0 are its opcode, bits 34:3 operand a and bits 66:35 operand b
(30_encoding.md R60, R61). -/
def Fields.Statement (i : Instr) : Prop :=
  (encode i).extractLsb' 0 3 = i.opcode ∧ (encode i).extractLsb' 3 32 = i.operandA ∧
    (encode i).extractLsb' 35 32 = i.operandB

theorem Fields.of_command (i : Instr) : Fields.Statement i := by
  have h := unpack_pack i.command
  simp only [unpack, Instr.command, Command.mk.injEq] at h
  exact h

theorem Fields.clz (a b : Word) : Fields.Statement (.clz a b) := Fields.of_command _
theorem Fields.wmul (a b : Word) : Fields.Statement (.wmul a b) := Fields.of_command _
theorem Fields.tmul (a b : Word) : Fields.Statement (.tmul a b) := Fields.of_command _
theorem Fields.interp (a b : Word) : Fields.Statement (.interp a b) := Fields.of_command _
theorem Fields.newton (a b : Word) : Fields.Statement (.newton a b) := Fields.of_command _
theorem Fields.rsqrt (a b : Word) : Fields.Statement (.rsqrt a b) := Fields.of_command _

end Sys2Proof.Laws
end

