-- ==== Sys2Proof/Tests/Slice0.lean ====
section
/-! SUPPORT. Tests: the checks refuse what they must, the vectors of 95_test_vectors.md, and, for the statements that
have hypotheses, states and operands that meet them. -/

namespace Sys2Proof.Tests

open Sys2Proof.Machine

/-! ### The checks refuse ill-formed terms -/

theorem test_wf_command_refuses_op6 : Command.wellFormed ⟨6#3, 1#32, 2#32⟩ = false := by decide
theorem test_wf_command_refuses_op7 : Command.wellFormed ⟨7#3, 0#32, 0#32⟩ = false := by decide
theorem test_wf_command_takes_op5 : Command.wellFormed ⟨5#3, 0#32, 0#32⟩ = true := by decide
theorem test_wf_instr_takes_any_operand : Instr.wellFormed (.interp 0#32 0#32) = true := by decide
theorem test_contract_refuses_zero : Instr.inContract (.interp 0#32 7#32) = false := by decide
theorem test_contract_refuses_max : Instr.inContract (.interp 0xFFFFFFFF#32 7#32) = false := by decide
theorem test_contract_takes_one_and_max_less_one :
    Instr.inContract (.interp 1#32 0#32) = true ∧ Instr.inContract (.interp 0xFFFFFFFE#32 0#32) = true := by decide
theorem test_seed_refuses_wrong_first : ¬ SeedOk (seedDefault.set 0 65535) := by decide
theorem test_seed_refuses_equal_neighbours : ¬ SeedOk (seedDefault.set 19 128) := by decide
theorem test_seed_refuses_zero_last : ¬ SeedOk (seedDefault.set 31 0) := by decide
theorem test_params_refuse_no_outstanding : ¬ Params.Ok { Params.default with outstanding := 0 } := by decide
theorem test_params_refuse_no_latency :
    ¬ Params.Ok { Params.default with latency := Params.default.latency.set 3 0 } := by decide
theorem test_params_refuse_no_sentinel_latency : ¬ Params.Ok { Params.default with sentinelLatency := 0 } := by decide
theorem test_params_refuse_slow_sentinel : ¬ Params.Ok { Params.default with sentinelLatency := 2 } := by decide

/-! ### One step of each instruction, from reset, on vectors of 95_test_vectors.md -/

/-- The state with the command of i on the request port. -/
def portWith (i : Instr) : State := State.reset.withCommand (encode i)

/-- The response that a step offers. -/
def offeredBy (o : Host.Outcome State Fault Refusal) : Option (Word × Word) :=
  match o with
  | .next t => if t.rspValid then some (t.rspHi, t.rspLo) else none
  | .fault _ => none
  | .refused _ => none

/-- The marks and the record after a step. -/
def marksAfter (o : Host.Outcome State Fault Refusal) : Option (Bool × Bool × List ModelOutcome) :=
  match o with
  | .next t => some (t.faulted, t.refused, t.record)
  | .fault _ => none
  | .refused _ => none

/-- 40_clz.md R80, the example. -/
theorem test_clz_example : offeredBy (step (portWith (.clz 0x00012345#32 0#32))) = some (0, 15) := by decide
/-- L2-CLZ: the zero convention; b is ignored. -/
theorem test_clz_zero : offeredBy (step (portWith (.clz 0#32 0xFFFFFFFF#32))) = some (0, 32) := by decide
/-- 41_multiply.md R90, the example. -/
theorem test_wmul_example :
    offeredBy (step (portWith (.wmul 0x12345678#32 0x9ABCDEF0#32))) = some (0x0B00EA4E, 0x242D2080) := by decide
/-- L2-WMUL: the cross products carry across the word boundary. -/
theorem test_wmul_carry :
    offeredBy (step (portWith (.wmul 0x0001FFFF#32 0xFFFF0001#32))) = some (0x0001FFFD, 0x0002FFFF) := by decide
/-- 41_multiply.md R95, the example. -/
theorem test_tmul_example :
    offeredBy (step (portWith (.tmul 0xFFFFFFFF#32 2#32))) = some (0, 0xFFFFFFFE) := by decide
/-- L2-TMUL: the product 2^32 truncates to 0. -/
theorem test_tmul_wraps : offeredBy (step (portWith (.tmul 0x10000#32 0x10000#32))) = some (0, 0) := by decide
/-- L2-INTERP, e = 16 and the largest fraction. -/
theorem test_interp_largest_fraction :
    offeredBy (step (portWith (.interp 0x1FFFF#32 0#32))) = some (0, 182) := by decide
/-- 43_newton.md R130, the example. -/
theorem test_newton_example : offeredBy (step (portWith (.newton 39555#32 3#32))) = some (0, 37719) := by decide
/-- L2-NEWTON: term wraps and the product exceeds 2^48. -/
theorem test_newton_wraps :
    offeredBy (step (portWith (.newton 0x30000#32 1#32))) = some (0, 0x7FF70000) := by decide
/-- 44_rsqrt.md R150, the example. -/
theorem test_rsqrt_example : offeredBy (step (portWith (.rsqrt 3#32 0xFFFFFFFF#32))) = some (0, 37719) := by decide

/-- L2-ERR: `INTERP 0` sets faulted and records the operand. -/
theorem test_interp_zero_marks :
    marksAfter (step (portWith (.interp 0#32 0#32))) = some (true, false, [.interpDomain 0#32]) := by decide
/-- L2-ERR: op 110 sets refused and records the opcode. -/
theorem test_reserved_marks :
    marksAfter (step (State.reset.withCommand (pack ⟨6#3, 1#32, 2#32⟩))) =
      some (false, true, [.reservedOp 6#3]) := by decide
/-- L2-ERR: `RSQRT 0` sets no mark. -/
theorem test_rsqrt_zero_no_mark :
    marksAfter (step (portWith (.rsqrt 0#32 0#32))) = some (false, false, []) := by decide

/-! ### The interface -/

/-- One command accepted, its response 31 offered: CLZ 1. -/
def offering : State :=
  { State.reset with
    queue := [⟨0#3, 1#32, 0#32⟩], accepted := [⟨0#3, 1#32, 0#32⟩], rspValid := true, rspHi := 0#32, rspLo := 31#32 }

/-- The queue and the responses given after a step. -/
def queueAfter (o : Host.Outcome State Fault Refusal) : Option (List Command × List Answer) :=
  match o with
  | .next t => some (t.queue, t.answered)
  | .fault _ => none
  | .refused _ => none

/-- 10_state.md R29: the response transfer removes the head. -/
theorem test_response_transfer :
    queueAfter (step { offering with inp := { HostDrive.idle with rspReady := true } }) =
      some ([], [⟨⟨0#3, 1#32, 0#32⟩, ⟨0#32, 31#32⟩⟩]) := by decide
/-- 70_reset_and_hazards.md R197: a stalled response is held. -/
theorem test_stalled_response : offeredBy (step offering) = some (0, 31) := by decide
/-- 95_test_vectors.md P4, step 2: a reset drops the command. -/
theorem test_reset_drops :
    queueAfter (step { offering with inp := { HostDrive.idle with rst := true, rspReady := true } }) =
      some ([], []) := by decide
/-- A host that withdraws an unaccepted request. -/
def breaking : State :=
  { State.reset with inp := { HostDrive.idle with reqValid := true }, hostPlan := [HostDrive.idle] }
theorem test_broken_handshake : step breaking = .fault .hostBrokeHandshake := by rfl

/-! ### Witnesses: the hypotheses of the statements can be met -/

/-- Both clauses of ClzGivesLeadingZeroCount, and ExponentBracketsOperand at both ends. -/
theorem witness_clz_clauses : (0#32 : Word) = 0#32 ∧ (1#32 : Word) ≠ 0#32 ∧ (0xFFFFFFFF#32 : Word) ≠ 0#32 := by decide
/-- InterpGivesBlend at e = 0, e = 16 and e = 31. -/
theorem witness_interp_blend_clauses :
    (2 ^ 0 ≤ (1#32 : Word).toNat ∧ (1#32 : Word).toNat < 2 ^ (0 + 1) ∧ (1#32 : Word) ≠ 0xFFFFFFFF#32) ∧
    (2 ^ 16 ≤ (0x1FFFF#32 : Word).toNat ∧ (0x1FFFF#32 : Word).toNat < 2 ^ (16 + 1) ∧
      (0x1FFFF#32 : Word) ≠ 0xFFFFFFFF#32) ∧
    (2 ^ 31 ≤ (0xFFFFFFFE#32 : Word).toNat ∧ (0xFFFFFFFE#32 : Word).toNat < 2 ^ (31 + 1) ∧
      (0xFFFFFFFE#32 : Word) ≠ 0xFFFFFFFF#32) := by decide
/-- InterpGivesBlend's last clause and InterpOutsideContractDrawsFreeWords, at both operands. -/
theorem witness_interp_outside_contract :
    ((0#32 : Word) = 0#32 ∨ (0#32 : Word) = 0xFFFFFFFF#32) ∧
    ((0xFFFFFFFF#32 : Word) = 0#32 ∨ (0xFFFFFFFF#32 : Word) = 0xFFFFFFFF#32) := by decide
/-- RsqrtIsSentinelOrOneNewtonOfInterp, its third clause at both ends. -/
theorem witness_rsqrt_path :
    ((1#32 : Word) ≠ 0#32 ∧ (1#32 : Word) ≠ 0xFFFFFFFF#32) ∧
    ((0xFFFFFFFE#32 : Word) ≠ 0#32 ∧ (0xFFFFFFFE#32 : Word) ≠ 0xFFFFFFFF#32) := by decide
/-- EveryInstructionAnswersFromEveryState, both clauses. -/
theorem witness_contract_clauses :
    Instr.inContract (.rsqrt 0#32 0#32) = true ∧ Instr.inContract (.interp 0#32 0#32) = false := by decide
/-- InterpBlendNeverWraps and InterpResultRange: a table, an operand, d > 0, d = 0 and a power of two. -/
theorem witness_interp_range :
    SeedOk seedDefault ∧ (3#32 : Word) ≠ 0#32 ∧ (3#32 : Word) ≠ 0xFFFFFFFF#32 ∧
    yNext seedDefault (exponent 3#32) < yBase seedDefault (exponent 3#32) ∧
    yNext seedDefault (exponent 0xC0000000#32) = yBase seedDefault (exponent 0xC0000000#32) ∧
    (0x80000000#32 : Word).toNat = 2 ^ 31 := by decide
/-- NewtonEdgeOperands, cases (iii), (iv) and (v). -/
theorem witness_newton_edges :
    newtonXy2 0x10000#32 3#32 = 196608#32 ∧ (196608#32 : Word) < 196609#32 ∧
    2 ^ 48 ≤ (0xFFFFFFFF#32 : Word).toNat * (0x10000#32 : Word).toNat * (0x10001#32 : Word).toNat := by decide
/-- NewtonFixesExactRoots at k = 0 and k = 15. -/
theorem witness_newton_fixed_points :
    (1#32 : Word).toNat * (0x10000#32 : Word).toNat * (0x10000#32 : Word).toNat = 2 ^ 32 ∧
    (0x40000000#32 : Word).toNat * (2#32 : Word).toNat * (2#32 : Word).toNat = 2 ^ 32 := by decide
/-- NewtonMovesConvergedEstimateAtMostOneUlp at x = 8 and at the largest x. -/
theorem witness_converged_estimates :
    ((2 * ((23170#32 : Word).toNat : Int) - 1) ^ 2 * ((8#32 : Word).toNat : Int) ≤ 2 ^ 34 ∧
      2 ^ 34 ≤ (2 * (23170#32 : Word).toNat + 1) ^ 2 * (8#32 : Word).toNat) ∧
    ((2 * ((1#32 : Word).toNat : Int) - 1) ^ 2 * ((0xFFFFFFFE#32 : Word).toNat : Int) ≤ 2 ^ 34 ∧
      2 ^ 34 ≤ (2 * (1#32 : Word).toNat + 1) ^ 2 * (0xFFFFFFFE#32 : Word).toNat) := by decide
/-- RsqrtNewtonStepNeverWraps: the estimate of the example. -/
theorem witness_rsqrt_estimate : (39555#32 : Word) = interpolate seedDefault 3#32 := by decide
/-- RsqrtAtPowersOfTwo at k = 0 and k = 15; SeedEntriesLieInOneTo65536. -/
theorem witness_exact_seeds :
    SeedOk seedRound ∧ seedDefault[2 * 0] = BitVec.ofNat 32 (2 ^ (16 - 0)) ∧
    seedDefault[2 * 15] = BitVec.ofNat 32 (2 ^ (16 - 15)) := by decide
/-- OpcodeAloneSelectsInstruction at 5 and 6; DecodeAndEncodeAgree's second half is met by decode_word_clz. -/
theorem witness_opcode_boundary :
    (⟨5#3, 0#32, 0#32⟩ : Command).op.toNat ≤ 5 ∧ 6 ≤ (⟨6#3, 0#32, 0#32⟩ : Command).op.toNat := by decide
/-- StepRunsDecodedInstruction. -/
theorem witness_step_runs :
    (portWith (.clz 1#32 0#32)).hostBreaksHandshake = false ∧ (portWith (.clz 1#32 0#32)).blockNext.offer = true ∧
    (portWith (.clz 1#32 0#32)).afterEdge.rspValid = false ∧
    (portWith (.clz 1#32 0#32)).afterEdge.queue = [⟨0#3, 1#32, 0#32⟩] ∧
    decodeCommand ⟨0#3, 1#32, 0#32⟩ = .ok (.clz 1#32 0#32) := by decide
/-- FetchedWordRunsNext. -/
theorem witness_table_word : decodeTableWord 72 0x1F45 = some (.rsqrt 1000#32 0#32) := by decide
/-- ReservedOpcodeIsAnsweredAndMarked. -/
theorem witness_reserved :
    (State.reset.withCommand (pack ⟨7#3, 1#32, 2#32⟩)).hostBreaksHandshake = false ∧
    (State.reset.withCommand (pack ⟨7#3, 1#32, 2#32⟩)).blockNext.offer = true ∧
    (State.reset.withCommand (pack ⟨7#3, 1#32, 2#32⟩)).afterEdge.rspValid = false ∧
    (State.reset.withCommand (pack ⟨7#3, 1#32, 2#32⟩)).afterEdge.queue = [⟨7#3, 1#32, 2#32⟩] := by decide
/-- EdgeTransfersMoveTheQueue and StalledResponseIsHeld. -/
theorem witness_stalled :
    offering.hostBreaksHandshake = false ∧ offering.inp.rst = false ∧ offering.rspValid = true ∧
    offering.inp.rspReady = false := by decide
/-- ResetEdgeDropsEverything. -/
theorem witness_reset_edge :
    { offering with inp := { HostDrive.idle with rst := true } }.hostBreaksHandshake = false ∧
    { offering with inp := { HostDrive.idle with rst := true } }.inp.rst = true := by decide
/-- StepStopsExactlyOnBrokenHandshake, its right side. -/
theorem witness_broken_handshake :
    breaking.inp.reqValid = true ∧ ¬ (breaking.inp.rst = false ∧ breaking.reqReady = true) ∧
    ∃ d rest, breaking.hostPlan = d :: rest ∧
      ¬ (d.reqValid = true ∧ d.reqOp = breaking.inp.reqOp ∧ d.reqA = breaking.inp.reqA ∧ d.reqB = breaking.inp.reqB) :=
  ⟨rfl, by decide, HostDrive.idle, [], rfl, by decide⟩
/-- NoStepChangesParameters, NoStepClearsMarks and StepRecordsOnlyTheOutcomeItOffers: steps with a next state, one that
records nothing and one that records an outcome, also from a state that is already marked. -/
theorem witness_next_states :
    (∃ t, step State.reset = .next t ∧ t.record = []) ∧
    (∃ t, step { portWith (.interp 0#32 0#32) with faulted := true, refused := true } = .next t ∧
      t.record = [.interpDomain 0#32]) :=
  ⟨⟨_, rfl, rfl⟩, ⟨_, rfl, rfl⟩⟩
/-- EveryStepKeepsInterfaceInvariant and EveryEdgeRefinesTransactionMoves: a state with an offered response that has the
invariant, and takes a step. -/
theorem witness_invariant : Inv offering ∧ ∃ t, step offering = .next t where
  left :=
    { bounded := by decide
      readyNotFull := by decide
      notReadyInReset := by decide
      validNonempty := by decide
      dataOfHead := by
        intro c rest r _ hq hr
        obtain ⟨rfl, _⟩ := List.cons.inj (hq : [(⟨0#3, 1#32, 0#32⟩ : Command)] = c :: rest)
        exact Option.some.inj hr
      answeredRight := by intro x hx; cases hx
      inOrder := by decide
      faultedIff := by decide
      refusedIff := by decide
      recorded := List.nil_suffix }
  right := ⟨_, rfl⟩

/-- A host that asks for CLZ 1 once and takes every response. -/
def oneClz : List HostDrive :=
  [{ HostDrive.idle with reqValid := true, reqA := 1#32, rspReady := true }, { HostDrive.idle with rspReady := true }]

/-- NthResponseAnswersNthRequest and UnmarkedRunGivesOnlyDefinedResponses: an unmarked run of three edges with a
response. -/
theorem witness_answered_run :
    ∃ s, Reaches 3 (State.start Params.default oneClz []) s ∧
      s.answered[0]? = some ⟨⟨0#3, 1#32, 0#32⟩, ⟨0#32, 31#32⟩⟩ ∧ s.unmarked :=
  ⟨_, ⟨_, rfl, _, rfl, _, rfl, rfl⟩, rfl, rfl, rfl⟩
/-- ResponsesDependOnCommandAndSeedAlone: a second run with another OUTSTANDING and another timing, one edge longer. -/
theorem witness_second_run :
    ∃ s, Reaches 4 (State.start { Params.default with outstanding := 1 } oneClz [⟨true, true⟩, ⟨false, false⟩]) s ∧
      s.answered = [⟨⟨0#3, 1#32, 0#32⟩, ⟨0#32, 31#32⟩⟩] ∧ commandOutcome ⟨0#3, 1#32, 0#32⟩ = none :=
  ⟨_, ⟨_, rfl, _, rfl, _, rfl, _, rfl, rfl⟩, rfl, rfl⟩
/-- OldestCommandIsOfferedWithinBound and ReadyIsRaisedWithinBound: a queued command, nothing offered, no plan. -/
theorem witness_waiting_command :
    { offering with rspValid := false }.resetFree ∧ { offering with rspValid := false }.queue ≠ [] ∧
    ∃ t, Reaches ({ offering with rspValid := false }.blockPlan.length + 1) { offering with rspValid := false } t :=
  ⟨⟨rfl, by intro d hd; cases hd⟩, by decide, _, _, rfl, rfl⟩

end Sys2Proof.Tests
end

