-- ==== Sys2Proof/Proofs/ResponseSoundness.lean ====
section
/-! Every response given since reset is one that may answer its command (`answers`): the invariant of the response port
behind the statements about runs, and 00_scope.md R18, which follows from it. -/

namespace Sys2Proof.Machine

/-! ### Which responses answer a command -/

theorem answers_of_commandResponse_eq_some {seed : Vector Word 32} {c : Command} {r r' : Response}
    (h : commandResponse seed c = some r') : answers seed c r = true ↔ r = r' := by
  simp [answers, h]

theorem answers_of_commandResponse_eq_none {seed : Vector Word 32} {c : Command} (r : Response)
    (h : commandResponse seed c = none) : answers seed c r = true := by
  simp [answers, h]

/-- A command without model outcome is a defined command: F gives it a response, under every SEED (10_state.md R27). -/
theorem exists_commandResponse_of_commandOutcome_eq_none (seed : Vector Word 32) {c : Command}
    (h : commandOutcome c = none) : ∃ r, commandResponse seed c = some r := by
  rcases answerCommand_cases c (State.start { Params.default with seed := seed } [] []) with
    ⟨r, hr, _, _⟩ | ⟨o, _, ho, _⟩
  · exact ⟨r, hr⟩
  · rw [h] at ho
    cases ho

/-! ### State.markOutcome -/

@[simp] theorem State.markOutcome_params (s : State) (o : ModelOutcome) : (s.markOutcome o).params = s.params := by
  cases o <;> rfl
@[simp] theorem State.markOutcome_queue (s : State) (o : ModelOutcome) : (s.markOutcome o).queue = s.queue := by
  cases o <;> rfl
@[simp] theorem State.markOutcome_answered (s : State) (o : ModelOutcome) :
    (s.markOutcome o).answered = s.answered := by
  cases o <;> rfl

/-! ### The invariant of the response port -/

/-- What the response port keeps between edges, in a block with the SeedTable `seed`. That Q is non-empty under an offer
is needed too: a command accepted into an empty Q would become the head of an offer that was not made for it. -/
structure ResponsesSound (seed : Vector Word 32) (s : State) : Prop where
  /-- The block's SeedTable is `seed` (10_state.md R22). -/
  seed_eq : s.params.seed = seed
  /-- An offered response is that of the head of Q (10_state.md R29). -/
  offered : s.rspValid = true → ∃ c rest, s.queue = c :: rest ∧ answers seed c ⟨s.rspHi, s.rspLo⟩ = true
  /-- Every response given since reset is that of its command (10_state.md R27, R29). -/
  given : ∀ x ∈ s.answered, answers seed x.cmd x.rsp = true

theorem responsesSound_start (p : Params) (hp : List HostDrive) (bp : List BlockChoice) :
    ResponsesSound p.seed (State.start p hp bp) where
  seed_eq := rfl
  offered := by intro h; cases h
  given := by intro x hx; cases hx

variable {seed : Vector Word 32} {s t : State}

/-- An offer that is still there after the transfers was not taken, so the head of Q is the same command. -/
theorem ResponsesSound.transfers_offered (h : ResponsesSound seed s) (hv : s.transfers.rspValid = true) :
    ∃ c rest, s.transfers.queue = c :: rest ∧ answers seed c ⟨s.rspHi, s.rspLo⟩ = true := by
  obtain ⟨hvalid, hqueue, _, _⟩ := s.transfers_fields
  have hstalled : (s.inp.rst = false ∧ s.rspValid = true) ∧ s.inp.rspReady = false := by
    simpa [hvalid] using hv
  obtain ⟨⟨hrst, hrsp⟩, hready⟩ := hstalled
  obtain ⟨c, rest, hq, ha⟩ := h.offered hrsp
  have hnot : s.responseTransfer = false := by simp [State.responseTransfer, hready]
  exact ⟨c, rest ++ (if s.requestTransfer then [s.requested] else []), by simp [hqueue, hrst, hnot, hq], ha⟩

/-- A response given by the transfers was given before, or it is the offer, taken as the answer of the head of Q. -/
theorem ResponsesSound.transfers_given (h : ResponsesSound seed s) :
    ∀ x ∈ s.transfers.answered, answers seed x.cmd x.rsp = true := by
  intro x hx
  obtain ⟨_, _, _, hanswered⟩ := s.transfers_fields
  rw [hanswered] at hx
  cases hrst : s.inp.rst with
  | true => simp [hrst] at hx
  | false =>
    cases htaken : s.responseTransfer with
    | false =>
      have hold : x ∈ s.answered := by simpa [hrst, htaken] using hx
      exact h.given x hold
    | true =>
      obtain ⟨_, hrsp, _⟩ := s.responseTransfer_iff.mp htaken
      obtain ⟨c, rest, hq, ha⟩ := h.offered hrsp
      have hmem : x ∈ s.answered ∨ x = ⟨c, ⟨s.rspHi, s.rspLo⟩⟩ := by simpa [hrst, htaken, hq] using hx
      rcases hmem with hold | rfl
      · exact h.given x hold
      · exact ha

theorem ResponsesSound.afterEdge (h : ResponsesSound seed s) : ResponsesSound seed s.afterEdge where
  seed_eq := by simpa using h.seed_eq
  offered := by simpa using h.transfers_offered
  given := by simpa using h.transfers_given

/-- Answering the head of Q offers F's response, or, where F gives none, any. -/
theorem ResponsesSound.answerCommand {c : Command} {rest : List Command} (h : ResponsesSound seed s)
    (hq : s.queue = c :: rest) (ht : answerCommand c s = .next t) : ResponsesSound seed t := by
  obtain ⟨rfl, _, hgiven⟩ := h
  rcases answerCommand_cases c s with ⟨r, hr, _, he⟩ | ⟨o, hr, _, he⟩ <;>
    obtain rfl := Host.Outcome.next.inj (he.symm.trans ht)
  · exact ⟨rfl, fun _ => ⟨c, rest, hq, (answers_of_commandResponse_eq_some hr).mpr rfl⟩, hgiven⟩
  · exact ⟨by simp, fun _ => ⟨c, rest, by simpa using hq, answers_of_commandResponse_eq_none _ hr⟩,
      by simpa using hgiven⟩

theorem ResponsesSound.drivePort {offer : Bool} (h : ResponsesSound seed s) (ht : drivePort offer s = .next t) :
    ResponsesSound seed t := by
  rcases drivePort_cases offer s with ⟨_, he⟩ | ⟨_, _, he⟩ | ⟨_, _, c, rest, hq, he⟩
  · obtain rfl := Host.Outcome.next.inj (he.symm.trans ht)
    exact h
  · obtain rfl := Host.Outcome.next.inj (he.symm.trans ht)
    exact ⟨h.seed_eq, by simp, h.given⟩
  · exact h.answerCommand hq (he.symm.trans ht)

theorem ResponsesSound.step (h : ResponsesSound seed s) (ht : step s = .next t) : ResponsesSound seed t := by
  rcases step_cases s with ⟨_, he⟩ | ⟨_, he⟩
  · rw [he] at ht
    cases ht
  · exact h.afterEdge.drivePort (he.symm.trans ht)

/-! ### Runs -/

/-- What every step keeps holds of every state reached. -/
theorem Reaches.keeps {P : State → Prop} (hstep : ∀ s t, P s → Machine.step s = .next t → P t) :
    ∀ {k : Nat} {s t : State}, Reaches k s t → P s → P t := by
  intro k
  induction k with
  | zero =>
    intro s t hreach hs
    obtain rfl : t = s := hreach
    exact hs
  | succ k ih =>
    intro s t hreach hs
    obtain ⟨u, hsu, hut⟩ := hreach
    exact ih hut (hstep s u hs hsu)

/-- In a run from reset, every response given is one that may answer its command. -/
theorem answers_of_mem_answered {p : Params} {hp : List HostDrive} {bp : List BlockChoice} {k : Nat} {x : Answer}
    (hreach : Reaches k (State.start p hp bp) s) (hx : x ∈ s.answered) : answers p.seed x.cmd x.rsp = true :=
  (hreach.keeps (fun _ _ h ht => ResponsesSound.step h ht) (responsesSound_start p hp bp)).given x hx

end Sys2Proof.Machine

namespace Sys2Proof.Proofs

open Sys2Proof.Machine

/-- Settles O47: both runs answer the command with F's response under the SEED they share, and F is defined there. -/
theorem responsesDependOnCommandAndSeedAlone : Obligations.ResponsesDependOnCommandAndSeedAlone := by
  unfold Obligations.ResponsesDependOnCommandAndSeedAlone
  intro p p' hp hp' bp bp' k k' s t hseed hs ht x hx y hy hcmd hdefined
  obtain ⟨r, hr⟩ := exists_commandResponse_of_commandOutcome_eq_none p.seed hdefined
  have hr' : commandResponse p'.seed y.cmd = some r := by rw [← hseed, ← hcmd, hr]
  calc x.rsp = r := (answers_of_commandResponse_eq_some hr).mp (answers_of_mem_answered hs hx)
    _ = y.rsp := ((answers_of_commandResponse_eq_some hr').mp (answers_of_mem_answered ht hy)).symm

end Sys2Proof.Proofs
end

/-! What one step can do, said once: the response port's four moves (`PortStep`), and what a step changes and keeps. -/

namespace Sys2Proof.Machine

/-! ### State.markOutcome, the fields it leaves and the marks it sets -/

@[simp] theorem State.markOutcome_inp (s : State) (o : ModelOutcome) : (s.markOutcome o).inp = s.inp := by
  cases o <;> rfl
@[simp] theorem State.markOutcome_reqReady (s : State) (o : ModelOutcome) :
    (s.markOutcome o).reqReady = s.reqReady := by
  cases o <;> rfl
@[simp] theorem State.markOutcome_accepted (s : State) (o : ModelOutcome) :
    (s.markOutcome o).accepted = s.accepted := by
  cases o <;> rfl
@[simp] theorem State.markOutcome_rspValid (s : State) (o : ModelOutcome) :
    (s.markOutcome o).rspValid = s.rspValid := by
  cases o <;> rfl
@[simp] theorem State.markOutcome_record (s : State) (o : ModelOutcome) :
    (s.markOutcome o).record = s.record ++ [o] := by
  cases o <;> rfl
@[simp] theorem State.markOutcome_faulted (s : State) (o : ModelOutcome) :
    (s.markOutcome o).faulted = (s.faulted || o.isFault) := by
  cases o <;> simp [State.markOutcome, ModelOutcome.isFault]
@[simp] theorem State.markOutcome_refused (s : State) (o : ModelOutcome) :
    (s.markOutcome o).refused = (s.refused || o.isRefusal) := by
  cases o <;> simp [State.markOutcome, ModelOutcome.isRefusal]

/-! ### The moves of the response port -/

/-- The four moves of the response port from the state `u` after an edge, where `offer` is the block's free choice. -/
inductive PortStep (offer : Bool) (u : State) : State → Prop
  /-- An offer that the edge did not end stays. -/
  | hold (valid : u.rspValid = true) : PortStep offer u u
  /-- Nothing is offered: Q is empty, or the block waits. -/
  | idle (invalid : u.rspValid = false) (waits : u.queue = [] ∨ offer = false) : PortStep offer u u.offerNothing
  /-- The head of Q is offered its response. -/
  | respond (c : Command) (rest : List Command) (r : Response) (invalid : u.rspValid = false)
      (head : u.queue = c :: rest) (response : commandResponse u.params.seed c = some r)
      (noOutcome : commandOutcome c = none) : PortStep offer u (u.offer r.hi r.lo)
  /-- The head of Q has unspecified data, and its outcome is recorded. -/
  | mark (c : Command) (rest : List Command) (o : ModelOutcome) (invalid : u.rspValid = false)
      (head : u.queue = c :: rest) (noResponse : commandResponse u.params.seed c = none)
      (outcome : commandOutcome c = some o) : PortStep offer u (u.offerUnspecified.markOutcome o)

/-- The response port always has a next state, by one of its four moves. -/
theorem exists_portStep (offer : Bool) (u : State) : ∃ t, drivePort offer u = .next t ∧ PortStep offer u t := by
  rcases drivePort_cases offer u with ⟨hv, he⟩ | ⟨hv, hw, he⟩ | ⟨hv, _, c, rest, hq, he⟩
  · exact ⟨u, he, .hold hv⟩
  · exact ⟨_, he, .idle hv hw⟩
  · rcases answerCommand_cases c u with ⟨r, hr, ho, ha⟩ | ⟨o, hr, ho, ha⟩
    · exact ⟨_, he.trans ha, .respond c rest r hv hq hr ho⟩
    · exact ⟨_, he.trans ha, .mark c rest o hv hq hr ho⟩

/-- A host that keeps the handshake has a next state. -/
theorem exists_step {s : State} (h : s.hostBreaksHandshake = false) :
    ∃ t, step s = .next t ∧ PortStep s.blockNext.offer s.afterEdge t := by
  obtain ⟨t, hd, hp⟩ := exists_portStep s.blockNext.offer s.afterEdge
  rcases step_cases s with ⟨hb, _⟩ | ⟨_, he⟩
  · rw [h] at hb
    cases hb
  · exact ⟨t, he.trans hd, hp⟩

/-- A step with a next state is the edge, then a move of the response port. -/
theorem portStep_of_step {s t : State} (ht : step s = .next t) : PortStep s.blockNext.offer s.afterEdge t := by
  rcases step_cases s with ⟨_, he⟩ | ⟨hb, _⟩
  · rw [he] at ht
    cases ht
  · obtain ⟨t', ht', hp⟩ := exists_step hb
    obtain rfl := Host.Outcome.next.inj (ht'.symm.trans ht)
    exact hp

section PortStep

variable {offer : Bool} {u t : State}

/-- The response port touches only its own signals, the marks, the record and the counter of free words. -/
theorem PortStep.frame (h : PortStep offer u t) :
    ∃ v hi lo f r rec n, t = { u with
      rspValid := v, rspHi := hi, rspLo := lo, faulted := f, refused := r, record := rec, freeCount := n } := by
  cases h with
  | hold => exact ⟨_, _, _, _, _, _, _, rfl⟩
  | idle => exact ⟨_, _, _, _, _, _, _, rfl⟩
  | respond => exact ⟨_, _, _, _, _, _, _, rfl⟩
  | mark _ _ o => cases o <;> exact ⟨_, _, _, _, _, _, _, rfl⟩

/-- The response port leaves the marks and the record, or it records one outcome and sets that outcome's mark. -/
theorem PortStep.marks (h : PortStep offer u t) :
    (t.record = u.record ∧ t.faulted = u.faulted ∧ t.refused = u.refused) ∨
    (∃ o : ModelOutcome, t.record = u.record ++ [o] ∧ t.faulted = (u.faulted || o.isFault) ∧
      t.refused = (u.refused || o.isRefusal)) := by
  cases h with
  | hold => exact .inl ⟨rfl, rfl, rfl⟩
  | idle => exact .inl ⟨rfl, rfl, rfl⟩
  | respond => exact .inl ⟨rfl, rfl, rfl⟩
  | mark _ _ o => exact .inr ⟨o, by simp⟩

/-- A block that offers, with a command in Q, has an offer after its move. -/
theorem PortStep.rspValid_of_offer (h : PortStep true u t) (hq : u.queue ≠ []) : t.rspValid = true := by
  cases h with
  | hold valid => exact valid
  | idle _ waits => simp [hq] at waits
  | respond => rfl
  | mark => simp

end PortStep

/-! ### What one step changes and keeps -/

section Step

variable {s t : State}

theorem params_of_step (ht : step s = .next t) : t.params = s.params := by
  obtain ⟨_, _, _, _, _, _, _, rfl⟩ := (portStep_of_step ht).frame
  simp

theorem queue_of_step (ht : step s = .next t) : t.queue = s.transfers.queue := by
  obtain ⟨_, _, _, _, _, _, _, rfl⟩ := (portStep_of_step ht).frame
  simp

theorem answered_of_step (ht : step s = .next t) : t.answered = s.transfers.answered := by
  obtain ⟨_, _, _, _, _, _, _, rfl⟩ := (portStep_of_step ht).frame
  simp

theorem inp_of_step (ht : step s = .next t) : t.inp = s.hostNext := by
  obtain ⟨_, _, _, _, _, _, _, rfl⟩ := (portStep_of_step ht).frame
  simp

theorem hostPlan_of_step (ht : step s = .next t) : t.hostPlan = s.hostPlan.tail := by
  obtain ⟨_, _, _, _, _, _, _, rfl⟩ := (portStep_of_step ht).frame
  simp

theorem blockPlan_of_step (ht : step s = .next t) : t.blockPlan = s.blockPlan.tail := by
  obtain ⟨_, _, _, _, _, _, _, rfl⟩ := (portStep_of_step ht).frame
  simp

theorem reqReady_of_step (ht : step s = .next t) :
    t.reqReady = (s.blockNext.raiseReady && !t.inp.rst && decide (t.queue.length < t.params.outstanding)) := by
  obtain ⟨_, _, _, _, _, _, _, rfl⟩ := (portStep_of_step ht).frame
  simp

/-- With a decodable command at the head of Q, no offer standing and a block that offers, the step is `exec`. -/
theorem step_eq_exec {c : Command} {rest : List Command} {i : Instr} (hb : s.hostBreaksHandshake = false)
    (ho : s.blockNext.offer = true) (hv : s.afterEdge.rspValid = false) (hq : s.afterEdge.queue = c :: rest)
    (hi : decodeCommand c = .ok i) : step s = exec i s.afterEdge := by
  have hdrive : drivePort s.blockNext.offer s.afterEdge = answerCommand c s.afterEdge := by
    rw [drivePort, hv, hq, ho]
    rfl
  have hstep : step s = drivePort s.blockNext.offer s.afterEdge := by simp [step, hb]
  rw [hstep, hdrive, answerCommand, hi]

/-! ### The queue over an edge -/

/-- An offer that stands after the transfers stood before them and was not taken. -/
theorem State.not_taken_of_transfers_rspValid (hv : s.transfers.rspValid = true) :
    s.inp.rst = false ∧ s.rspValid = true ∧ s.responseTransfer = false := by
  obtain ⟨hvalid, _, _, _⟩ := s.transfers_fields
  rw [hvalid] at hv
  cases hrst : s.inp.rst <;> cases hrsp : s.rspValid <;> simp_all [State.responseTransfer]

/-- Where neither a reset nor a response transfer happens, Q only grows at its end. -/
theorem State.transfers_queue_of_not_taken (hrst : s.inp.rst = false) (hnot : s.responseTransfer = false) :
    s.transfers.queue = s.queue ++ (if s.requestTransfer then [s.requested] else []) := by
  obtain ⟨_, hqueue, _, _⟩ := s.transfers_fields
  simpa [hrst, hnot] using hqueue

end Step

end Sys2Proof.Machine

namespace Sys2Proof.Proofs

open Sys2Proof.Machine

/-- Settles O28: the edge and the response port both leave the parameters. -/
theorem noStepChangesParameters : Obligations.NoStepChangesParameters :=
  fun _ _ ht => params_of_step ht

/-- Settles O41: the transfers leave the marks and the record, and the response port only adds an outcome. -/
theorem noStepClearsMarks : Obligations.NoStepClearsMarks := by
  unfold Obligations.NoStepClearsMarks
  intro s t ht
  rcases (portStep_of_step ht).marks with ⟨hrec, hf, hr⟩ | ⟨o, hrec, hf, hr⟩
  · simp [hrec, hf, hr]
  · simp +contextual [hrec, hf, hr]

/-- Settles O35: the response port leaves Q and the responses given as the transfers of the edge made them. -/
theorem edgeTransfersMoveTheQueue : Obligations.EdgeTransfersMoveTheQueue := by
  unfold Obligations.EdgeTransfersMoveTheQueue
  intro s hb hrst
  obtain ⟨t, ht, _⟩ := exists_step hb
  obtain ⟨_, hqueue, _, hanswered⟩ := s.transfers_fields
  refine ⟨t, ht, ?_, ?_⟩
  · rw [queue_of_step ht, hqueue]
    simp [hrst, State.responseTransfer, State.requestTransfer, State.requested]
  · rw [answered_of_step ht, hanswered]
    simp [hrst, State.responseTransfer]

/-- Settles O32: `step_eq_exec` is the statement. -/
theorem stepRunsDecodedInstruction : Obligations.StepRunsDecodedInstruction :=
  fun _ _ _ _ hb ho hv hq hi => step_eq_exec hb ho hv hq hi

end Sys2Proof.Proofs

/-! The interface invariant `Inv`: it holds at every start, the edge keeps it, and the response port keeps it. -/

namespace Sys2Proof.Machine

theorem inv_start (p : Params) (hp : List HostDrive) (bp : List BlockChoice) : Inv (State.start p hp bp) where
  bounded := Nat.zero_le _
  readyNotFull := by intro h; cases h
  notReadyInReset := fun _ => rfl
  validNonempty := by intro h; cases h
  dataOfHead := by intro _ _ _ h; cases h
  answeredRight := by intro _ h; cases h
  inOrder := rfl
  faultedIff := rfl
  refusedIff := rfl
  recorded := List.nil_suffix

/-! ### The edge -/

section Edge

variable {s : State}

theorem Inv.transfers_bounded (h : Inv s) : s.transfers.queue.length ≤ s.params.outstanding := by
  obtain ⟨_, hqueue, _, _⟩ := s.transfers_fields
  have hkept : (if s.responseTransfer then s.queue.tail else s.queue).length ≤ s.queue.length := by
    split <;> simp
  have hbound := h.bounded
  cases hrst : s.inp.rst with
  | true => simp [hqueue, hrst]
  | false =>
    cases hreq : s.requestTransfer with
    | false => simpa [hqueue, hrst, hreq] using hkept.trans hbound
    | true =>
      obtain ⟨_, _, hready⟩ := s.requestTransfer_iff.mp hreq
      have hroom := h.readyNotFull hready
      have hgrown : s.transfers.queue.length ≤ s.queue.length + 1 := by simpa [hqueue, hrst, hreq] using hkept
      omega

/-- An offer that outlives the transfers is that of the same head: Q keeps its commands, and may grow at its end. -/
theorem Inv.transfers_head (h : Inv s) (hv : s.transfers.rspValid = true) :
    ∃ c rest rest', s.queue = c :: rest ∧ s.transfers.queue = c :: rest' ∧ s.rspValid = true := by
  obtain ⟨hrst, hrsp, hnot⟩ := State.not_taken_of_transfers_rspValid hv
  obtain ⟨c, rest, hq⟩ := List.exists_cons_of_ne_nil (h.validNonempty hrsp)
  exact ⟨c, rest, _, hq, by rw [State.transfers_queue_of_not_taken hrst hnot, hq]; rfl, hrsp⟩

theorem Inv.transfers_answeredRight (h : Inv s) :
    ∀ x ∈ s.transfers.answered, ∀ r, commandResponse s.params.seed x.cmd = some r → x.rsp = r := by
  obtain ⟨_, _, _, hanswered⟩ := s.transfers_fields
  intro x hx r hr
  rw [hanswered] at hx
  cases hrst : s.inp.rst with
  | true => simp [hrst] at hx
  | false =>
    cases htaken : s.responseTransfer with
    | false => exact h.answeredRight x (by simpa [hrst, htaken] using hx) r hr
    | true =>
      obtain ⟨_, hrsp, _⟩ := s.responseTransfer_iff.mp htaken
      obtain ⟨c, rest, hq⟩ := List.exists_cons_of_ne_nil (h.validNonempty hrsp)
      have hmem : x ∈ s.answered ∨ x = ⟨c, ⟨s.rspHi, s.rspLo⟩⟩ := by simpa [hrst, htaken, hq] using hx
      rcases hmem with hold | rfl
      · exact h.answeredRight x hold r hr
      · exact h.dataOfHead c rest r hrsp hq hr

/-- The commands that a response transfer moves from Q to the responses given stay in acceptance order. -/
theorem Inv.transfers_inOrder (h : Inv s) :
    s.transfers.accepted = s.transfers.answered.map Answer.cmd ++ s.transfers.queue := by
  obtain ⟨_, hqueue, haccepted, hanswered⟩ := s.transfers_fields
  rw [hqueue, haccepted, hanswered, h.inOrder]
  cases s.inp.rst with
  | true => rfl
  | false =>
    cases s.responseTransfer with
    | false => simp
    | true => cases s.queue <;> simp

/-- Without a reset the transfers move an offered command from Q to the responses given: the list of the commands
offered is the same. -/
theorem Inv.offered_afterEdge (h : Inv s) (hrst : s.inp.rst = false) : s.afterEdge.offered = s.offered := by
  obtain ⟨hvalid, hqueue, _, hanswered⟩ := s.transfers_fields
  unfold State.offered
  rw [State.afterEdge_answered, State.afterEdge_rspValid, State.afterEdge_queue, hvalid, hqueue, hanswered]
  cases hrsp : s.rspValid with
  | false => simp [hrst, hrsp, State.responseTransfer]
  | true =>
    obtain ⟨c, rest, hq⟩ := List.exists_cons_of_ne_nil (h.validNonempty hrsp)
    cases hready : s.inp.rspReady <;> simp [hrst, hrsp, hready, hq, State.responseTransfer]

theorem Inv.afterEdge_recorded (h : Inv s) : s.afterEdge.offered.filterMap commandOutcome <:+ s.record := by
  cases hrst : s.inp.rst with
  | true =>
    have hnone : s.afterEdge.offered = [] := by simp [State.offered, State.transfers, hrst]
    rw [hnone]
    exact List.nil_suffix
  | false =>
    rw [h.offered_afterEdge hrst]
    exact h.recorded

/-- The edge keeps the invariant: its transfers, and req_ready as it is set after them. -/
theorem Inv.afterEdge (h : Inv s) : Inv s.afterEdge where
  bounded := by simpa using h.transfers_bounded
  readyNotFull := by
    intro hready
    simp only [State.afterEdge_reqReady, Bool.and_eq_true, decide_eq_true_eq] at hready
    obtain ⟨_, hroom⟩ := hready
    simpa using hroom
  notReadyInReset := by
    intro hrst
    rw [State.afterEdge_inp] at hrst
    simp [hrst]
  validNonempty := by
    intro hv
    obtain ⟨c, _, rest', _, hq', _⟩ := h.transfers_head hv
    simp [hq']
  dataOfHead := by
    intro c rest r hv hq hr
    obtain ⟨c', rest', _, hold, hnew, hrsp⟩ := h.transfers_head hv
    obtain ⟨rfl, _⟩ := List.cons.inj (hq.symm.trans hnew)
    simpa using h.dataOfHead _ rest' r hrsp hold (by simpa using hr)
  answeredRight := by simpa using h.transfers_answeredRight
  inOrder := h.transfers_inOrder
  faultedIff := by simpa using h.faultedIff
  refusedIff := by simpa using h.refusedIff
  recorded := by simpa using h.afterEdge_recorded

end Edge

/-! ### The response port -/

/-- Each move of the response port keeps the invariant: a new offer is of the head of Q, with F's response or with the
outcome that it records. -/
theorem Inv.portStep {offer : Bool} {u t : State} (h : Inv u) (hp : PortStep offer u t) : Inv t := by
  cases hp with
  | hold => exact h
  | idle invalid =>
    have hoffered : u.offerNothing.offered = u.offered := by simp [State.offered, invalid]
    exact { h with
      validNonempty := by simp
      dataOfHead := by simp
      recorded := by simpa [hoffered] using h.recorded }
  | respond c rest r invalid head response noOutcome =>
    have hoffered : (u.offer r.hi r.lo).offered = u.offered ++ [c] := by simp [State.offered, invalid, head]
    exact { h with
      validNonempty := by simp [head]
      dataOfHead := by
        intro c' rest' r' _ hq hr
        obtain ⟨rfl, _⟩ := List.cons.inj (head.symm.trans hq)
        exact Option.some.inj (response.symm.trans hr)
      recorded := by simpa [hoffered, noOutcome] using h.recorded }
  | mark c rest o invalid head noResponse outcome =>
    have hoffered : (u.offerUnspecified.markOutcome o).offered = u.offered ++ [c] := by
      simp [State.offered, invalid, head]
    exact
      { bounded := by simpa using h.bounded
        readyNotFull := by simpa using h.readyNotFull
        notReadyInReset := by simpa using h.notReadyInReset
        validNonempty := by simp [head]
        dataOfHead := by
          intro c' rest' r _ hq hr
          obtain ⟨rfl, _⟩ := List.cons.inj (head.symm.trans (by simpa using hq))
          simp [noResponse] at hr
        answeredRight := by simpa using h.answeredRight
        inOrder := by simpa using h.inOrder
        faultedIff := by simp [h.faultedIff]
        refusedIff := by simp [h.refusedIff]
        recorded := by
          have hgrown : (u.offerUnspecified.markOutcome o).offered.filterMap commandOutcome =
              u.offered.filterMap commandOutcome ++ [o] := by simp [hoffered, outcome]
          rw [hgrown, State.markOutcome_record]
          exact List.suffix_concat_iff.mpr (.inr ⟨_, rfl, h.recorded⟩) }

/-- Every step with a next state keeps the invariant: the edge does, then the response port. -/
theorem Inv.step {s t : State} (h : Inv s) (ht : step s = .next t) : Inv t :=
  h.afterEdge.portStep (portStep_of_step ht)

/-! ### Runs -/

/-- A run with neither mark set has recorded nothing, as an outcome is a fault or a refusal. -/
theorem Inv.record_eq_nil {s : State} (h : Inv s) (hs : s.unmarked) : s.record = [] := by
  obtain ⟨hf, hr⟩ := hs
  rw [h.faultedIff, List.any_eq_false] at hf
  rw [h.refusedIff, List.any_eq_false] at hr
  refine List.eq_nil_iff_forall_not_mem.mpr fun o ho => ?_
  cases o with
  | interpDomain a => exact hf _ ho rfl
  | reservedOp op => exact hr _ ho rfl

/-- In a state with neither mark set, no command that has been answered has a model outcome. -/
theorem Inv.commandOutcome_eq_none {s : State} (h : Inv s) (hs : s.unmarked) {x : Answer} (hx : x ∈ s.answered) :
    commandOutcome x.cmd = none := by
  have hrecorded := h.recorded
  rw [h.record_eq_nil hs, List.suffix_nil, List.filterMap_eq_nil_iff] at hrecorded
  exact hrecorded x.cmd (List.mem_append_left _ (List.mem_map_of_mem hx))

end Sys2Proof.Machine

namespace Sys2Proof.Proofs

open Sys2Proof.Machine

/-- Settles O43: State.reset is the start of a run too, with the default parameters, an idle host and no plan. -/
theorem interfaceInvariantHoldsAtReset : Obligations.InterfaceInvariantHoldsAtReset :=
  ⟨inv_start Params.default [] [], inv_start⟩

/-- Settles O44: the edge and the response port each keep every clause of the invariant. -/
theorem everyStepKeepsInterfaceInvariant : Obligations.EveryStepKeepsInterfaceInvariant :=
  fun _ _ h ht => h.step ht

/-- Settles O48: an unmarked run has recorded no outcome, so every command answered is a defined one, and its response
is F's. -/
theorem unmarkedRunGivesOnlyDefinedResponses : Obligations.UnmarkedRunGivesOnlyDefinedResponses := by
  unfold Obligations.UnmarkedRunGivesOnlyDefinedResponses
  intro p hp bp k s hreach hs x hx
  have hinv : Inv s := hreach.keeps (fun _ _ h ht => Inv.step h ht) (inv_start p hp bp)
  obtain ⟨r, hr⟩ := exists_commandResponse_of_commandOutcome_eq_none p.seed (hinv.commandOutcome_eq_none hs hx)
  rw [hr, (answers_of_commandResponse_eq_some hr).mp (answers_of_mem_answered hreach hx)]

end Sys2Proof.Proofs

/-! The liveness of 10_state.md R30: each edge uses up one of the block's free choices, and with none left the block
offers and raises req_ready as soon as the rules let it. -/

namespace Sys2Proof.Machine

section Step

variable {s t : State}

theorem State.blockNext_of_blockPlan_nil (hbp : s.blockPlan = []) : s.blockNext = ⟨true, true⟩ := by
  simp [State.blockNext, hbp]

/-- A host that does not reset the block does not do so after the coming edge either. -/
theorem State.resetFree.hostNext_rst (h : s.resetFree) : s.hostNext.rst = false := by
  obtain ⟨hnow, hlater⟩ := h
  cases hp : s.hostPlan with
  | nil => simpa [State.hostNext, hp] using hnow
  | cons d rest => simpa [State.hostNext, hp] using hlater d (by simp [hp])

theorem State.resetFree.step (h : s.resetFree) (ht : step s = .next t) : t.resetFree := by
  have ⟨_, hlater⟩ := h
  constructor
  · rw [inp_of_step ht]
    exact h.hostNext_rst
  · intro d hd
    rw [hostPlan_of_step ht] at hd
    exact hlater d (List.mem_of_mem_tail hd)

/-- Where nothing is offered and rst is 0, a step keeps the oldest command at the head of Q. -/
theorem head_of_step_of_not_offered (hrst : s.inp.rst = false) (hv : s.rspValid = false) (hq : s.queue ≠ [])
    (ht : step s = .next t) : t.queue ≠ [] ∧ t.queue.head? = s.queue.head? := by
  have hnot : s.responseTransfer = false := by simp [State.responseTransfer, hv]
  rw [queue_of_step ht, State.transfers_queue_of_not_taken hrst hnot]
  obtain ⟨c, rest, hc⟩ := List.exists_cons_of_ne_nil hq
  simp [hc]

/-- Where the block offers at an edge that leaves a command in Q, an offer stands after it. -/
theorem rspValid_of_step_of_offer (ho : s.blockNext.offer = true) (hq : t.queue ≠ []) (ht : step s = .next t) :
    t.rspValid = true := by
  have hport := portStep_of_step ht
  rw [ho] at hport
  refine hport.rspValid_of_offer ?_
  rwa [State.afterEdge_queue, ← queue_of_step ht]

/-- Once the block's plan is used up, req_ready is 0 after an edge only where rst is 1 or Q is full. -/
theorem ready_or_full_of_step (hbp : s.blockPlan = []) (hrst : t.inp.rst = false) (ht : step s = .next t) :
    t.reqReady = true ∨ t.params.outstanding ≤ t.queue.length := by
  rw [reqReady_of_step ht, State.blockNext_of_blockPlan_nil hbp, hrst]
  by_cases hroom : t.queue.length < t.params.outstanding
  · exact .inl (by simpa using hroom)
  · exact .inr (Nat.le_of_not_lt hroom)

end Step

/-- The oldest command is offered by the edge after the last free choice of the block, whatever that plan is. -/
theorem exists_offer_of_reaches (bp : List BlockChoice) :
    ∀ s t : State, s.blockPlan = bp → s.resetFree → s.queue ≠ [] → Reaches (bp.length + 1) s t →
      ∃ j u, j ≤ bp.length + 1 ∧ Reaches j s u ∧ u.rspValid = true ∧ u.queue.head? = s.queue.head? := by
  induction bp with
  | nil =>
    intro s t hbp hfree hq hreach
    obtain ⟨u, hsu, _⟩ := hreach
    cases hv : s.rspValid with
    | true => exact ⟨0, s, Nat.zero_le _, rfl, hv, rfl⟩
    | false =>
      obtain ⟨hu, hhead⟩ := head_of_step_of_not_offered hfree.1 hv hq hsu
      have ho : s.blockNext.offer = true := by rw [State.blockNext_of_blockPlan_nil hbp]
      exact ⟨1, u, Nat.le_refl _, ⟨u, hsu, rfl⟩, rspValid_of_step_of_offer ho hu hsu, hhead⟩
  | cons d rest ih =>
    intro s t hbp hfree hq hreach
    obtain ⟨u, hsu, hut⟩ := hreach
    cases hv : s.rspValid with
    | true => exact ⟨0, s, Nat.zero_le _, rfl, hv, rfl⟩
    | false =>
      obtain ⟨hu, hhead⟩ := head_of_step_of_not_offered hfree.1 hv hq hsu
      have hplan : u.blockPlan = rest := by rw [blockPlan_of_step hsu, hbp]; rfl
      obtain ⟨j, w, hj, huw, hw, hwhead⟩ := ih u t hplan (hfree.step hsu) hu hut
      exact ⟨j + 1, w, Nat.succ_le_succ hj, ⟨u, hsu, huw⟩, hw, hwhead.trans hhead⟩

/-- The edge after the last free choice of the block raises req_ready, unless Q is full. -/
theorem ready_or_full_of_reaches (bp : List BlockChoice) :
    ∀ s t : State, s.blockPlan = bp → s.resetFree → Reaches (bp.length + 1) s t →
      t.reqReady = true ∨ t.params.outstanding ≤ t.queue.length := by
  induction bp with
  | nil =>
    intro s t hbp hfree hreach
    obtain ⟨u, hsu, rfl⟩ := hreach
    exact ready_or_full_of_step hbp (hfree.step hsu).1 hsu
  | cons d rest ih =>
    intro s t hbp hfree hreach
    obtain ⟨u, hsu, hut⟩ := hreach
    have hplan : u.blockPlan = rest := by rw [blockPlan_of_step hsu, hbp]; rfl
    exact ih u t hplan (hfree.step hsu) hut

end Sys2Proof.Machine

namespace Sys2Proof.Proofs

open Sys2Proof.Machine

/-- Settles O49, by induction on the block's plan. -/
theorem oldestCommandIsOfferedWithinBound : Obligations.OldestCommandIsOfferedWithinBound :=
  fun s t hfree hq hreach => exists_offer_of_reaches s.blockPlan s t rfl hfree hq hreach

/-- Settles O50, by induction on the block's plan. -/
theorem readyIsRaisedWithinBound : Obligations.ReadyIsRaisedWithinBound :=
  fun s t hfree hreach => ready_or_full_of_reaches s.blockPlan s t rfl hfree hreach

end Sys2Proof.Proofs

/-! The fetch point (entry 17): a ready, empty block with one command on its request port. -/

namespace Sys2Proof.Machine

/-- A table word decodes to an instruction exactly when its packed vector does. -/
theorem decodeTableWord_eq_some_iff {nbits w : Nat} {i : Instr} :
    decodeTableWord nbits w = some i ↔ decode (tableWord nbits w) = .ok i := by
  unfold decodeTableWord
  cases decode (tableWord nbits w) <;> simp

/-- A command that decodes is the command of its instruction. -/
theorem eq_command_of_decodeCommand {c : Command} {i : Instr} (h : decodeCommand c = .ok i) : c = i.command := by
  rcases decodeCommand_cases c with ⟨_, he⟩ | ⟨i', hc, he⟩
  · rw [he] at h
    cases h
  · obtain rfl := Except.ok.inj (he.symm.trans h)
    exact hc

section WithCommand

variable (s : State) (w : CmdBits)

@[simp] theorem State.withCommand_params : (s.withCommand w).params = s.params := rfl
@[simp] theorem State.withCommand_faulted : (s.withCommand w).faulted = s.faulted := rfl
@[simp] theorem State.withCommand_refused : (s.withCommand w).refused = s.refused := rfl
@[simp] theorem State.withCommand_queue : (s.withCommand w).queue = [] := rfl
@[simp] theorem State.withCommand_rspValid : (s.withCommand w).rspValid = false := rfl
@[simp] theorem State.withCommand_rst : (s.withCommand w).inp.rst = false := rfl
@[simp] theorem State.withCommand_requested : (s.withCommand w).requested = unpack w := rfl
@[simp] theorem State.withCommand_requestTransfer : (s.withCommand w).requestTransfer = true := rfl
@[simp] theorem State.withCommand_blockNext : (s.withCommand w).blockNext = ⟨true, true⟩ := rfl

/-- A request that is accepted at the coming edge puts no duty on the host. -/
theorem State.withCommand_keepsHandshake : (s.withCommand w).hostBreaksHandshake = false := by
  simp [State.hostBreaksHandshake]

theorem State.withCommand_afterEdge_rspValid : (s.withCommand w).afterEdge.rspValid = false := by
  obtain ⟨hvalid, _, _, _⟩ := (s.withCommand w).transfers_fields
  simp [hvalid]

/-- The edge accepts the command on the port into the empty queue. -/
theorem State.withCommand_afterEdge_queue : (s.withCommand w).afterEdge.queue = [unpack w] := by
  obtain ⟨_, hqueue, _, _⟩ := (s.withCommand w).transfers_fields
  simp [hqueue]

end WithCommand

end Sys2Proof.Machine

namespace Sys2Proof.Proofs

open Sys2Proof.Machine

/-- Settles O33: the edge accepts the placed command, and the step is `exec` of what it decodes to. -/
theorem fetchedWordRunsNext : Obligations.FetchedWordRunsNext := by
  unfold Obligations.FetchedWordRunsNext State.withFetchWord
  intro s nbits w i hw
  have hdecode : decodeCommand (unpack (tableWord nbits w)) = .ok i := decodeTableWord_eq_some_iff.mp hw
  have hqueue := s.withCommand_afterEdge_queue (tableWord nbits w)
  refine ⟨?_, ?_, by simp, by simp, by simp⟩
  · exact step_eq_exec (s.withCommand_keepsHandshake _) (by simp) (s.withCommand_afterEdge_rspValid _) hqueue hdecode
  · rw [hqueue, eq_command_of_decodeCommand hdecode]

end Sys2Proof.Proofs

/-! The SeedTable and the state after reset. -/

namespace Sys2Proof

/-- The entries of a table that meets 10_state.md R21 (b) fall strictly over all 32 indices. -/
theorem seed_strictAnti {seed : Vector Word 32} (h : SeedOk seed) :
    StrictAnti fun k : Fin 32 => seed[k.val].toNat := by
  obtain ⟨_, hfall, _⟩ := h
  exact Fin.strictAnti_iff_succ_lt.mpr fun k => BitVec.lt_def.mp (hfall k)

end Sys2Proof

namespace Sys2Proof.Proofs

open Sys2Proof.Machine

/-- Settles O27: the entries fall from SEED[0] = 65536 to SEED[31] ≥ 1, so every entry lies between the two. -/
theorem seedEntriesLieInOneTo65536 : Obligations.SeedEntriesLieInOneTo65536 := by
  unfold Obligations.SeedEntriesLieInOneTo65536
  intro seed h k
  have hanti := (seed_strictAnti h).antitone
  obtain ⟨hfirst, _, hlast⟩ := h
  constructor
  · calc 1 ≤ seed[31].toNat := BitVec.le_def.mp hlast
      _ ≤ seed[k.val].toNat := hanti (Fin.le_last k)
  · calc seed[k.val].toNat ≤ seed[0].toNat := hanti (Fin.zero_le k)
      _ = 65536 := by rw [hfirst]; rfl

/-- Settles O26, entry by entry of the two tables. -/
theorem candidateSeedTablesMeetConstraints : Obligations.CandidateSeedTablesMeetConstraints := by
  unfold Obligations.CandidateSeedTablesMeetConstraints
  refine ⟨?default, ?round, ?differ, ?nearest⟩
  case default => decide
  case round => decide
  case differ => decide
  case nearest => decide

/-- Settles O38. -/
theorem resetStateIsEmptyAndUnmarked : Obligations.ResetStateIsEmptyAndUnmarked :=
  ⟨rfl, rfl, rfl, rfl, rfl⟩

end Sys2Proof.Proofs

/-! Acceptance order by position, over runs (20_memory.md R47). -/

namespace Sys2Proof.Machine

/-- Every state of a run has the interface invariant. -/
theorem inv_of_reaches_start {p : Params} {hp : List HostDrive} {bp : List BlockChoice} {k : Nat} {s : State}
    (hreach : Reaches k (State.start p hp bp) s) : Inv s :=
  hreach.keeps (fun _ _ h ht => Inv.step h ht) (inv_start p hp bp)

/-- The commands answered are a prefix of those accepted, so they stand there at the same positions. -/
theorem Inv.accepted_getElem?_of_answered {s : State} (h : Inv s) {n : Nat} {x : Answer}
    (hx : s.answered[n]? = some x) : s.accepted[n]? = some x.cmd := by
  have hcmd : (s.answered.map Answer.cmd)[n]? = some x.cmd := by simp [hx]
  obtain ⟨hlt, _⟩ := List.getElem?_eq_some_iff.mp hcmd
  rw [h.inOrder, List.getElem?_append_left hlt, hcmd]

end Sys2Proof.Machine

namespace Sys2Proof.Proofs

open Sys2Proof.Machine

/-- Settles O46: the position comes from the acceptance order that the invariant keeps, the response from F under the
SEED that the run started with. -/
theorem nthResponseAnswersNthRequest : Obligations.NthResponseAnswersNthRequest := by
  unfold Obligations.NthResponseAnswersNthRequest
  intro p hp bp k s hreach n x hx
  have hanswers : answers p.seed x.cmd x.rsp = true :=
    answers_of_mem_answered hreach (List.mem_of_getElem? hx)
  exact ⟨(inv_of_reaches_start hreach).accepted_getElem?_of_answered hx,
    fun _ hr => (answers_of_commandResponse_eq_some hr).mp hanswers⟩

end Sys2Proof.Proofs

/-! Encoding and decoding (30_encoding.md): packing and unpacking are inverse to each other, and the decoder inverts
`Instr.command`; what a reserved opcode at the head of Q leads to. -/

namespace Sys2Proof

/-! ### The command vector -/

/-- The three fields of a command vector make up all its 67 bits (30_encoding.md R60). -/
theorem pack_unpack (w : CmdBits) : pack (unpack w) = w := by
  have hlow : w.extractLsb' 3 32 ++ w.extractLsb' 0 3 = w.extractLsb' 0 35 :=
    BitVec.extractLsb'_append_extractLsb'_eq_extractLsb' rfl
  have hall : w.extractLsb' 35 32 ++ w.extractLsb' 0 35 = w.extractLsb' 0 67 :=
    BitVec.extractLsb'_append_extractLsb'_eq_extractLsb' rfl
  calc pack (unpack w) = w.extractLsb' 35 32 ++ (w.extractLsb' 3 32 ++ w.extractLsb' 0 3) :=
        BitVec.append_assoc
    _ = w.extractLsb' 0 67 := by rw [hlow, hall]
    _ = w := BitVec.extractLsb'_eq_self

/-! ### The decoder -/

theorem Instr.opcode_le (i : Instr) : i.opcode.toNat ≤ 5 := by
  cases i <;> simp [Instr.opcode]

theorem decodeCommand_command (i : Instr) : decodeCommand i.command = .ok i := by
  cases i <;> rfl

theorem decodeCommand_eq_ok_iff {c : Command} {i : Instr} : decodeCommand c = .ok i ↔ c = i.command := by
  constructor
  · exact Machine.eq_command_of_decodeCommand
  · rintro rfl
    exact decodeCommand_command i

/-- Opcodes 6 and 7 are rejected by name (30_encoding.md R66). -/
theorem decodeCommand_of_reserved {c : Command} (h : 6 ≤ c.op.toNat) :
    decodeCommand c = .error (.reservedOp c.op) := by
  rcases Machine.decodeCommand_cases c with ⟨_, he⟩ | ⟨i, rfl, _⟩
  · exact he
  · exact absurd (h.trans i.opcode_le) (by decide)

/-- The opcodes 0 to 5, and only they, have an instruction (30_encoding.md R65). -/
theorem exists_decodeCommand_eq_ok_iff {c : Command} : (∃ i, decodeCommand c = .ok i) ↔ c.op.toNat ≤ 5 := by
  constructor
  · rintro ⟨i, hi⟩
    rw [decodeCommand_eq_ok_iff.mp hi]
    exact i.opcode_le
  · intro hop
    rcases Machine.decodeCommand_cases c with ⟨hres, _⟩ | ⟨i, _, hi⟩
    · omega
    · exact ⟨i, hi⟩

namespace Machine

theorem commandOutcome_of_reserved {c : Command} (h : 6 ≤ c.op.toNat) :
    commandOutcome c = some (.reservedOp c.op) := by
  simp [commandOutcome, decodeCommand_of_reserved h]

/-- With a free port and a block that offers, a head of Q that has an outcome is answered with free words and marked. -/
theorem PortStep.eq_of_outcome {u t : State} {c : Command} {rest : List Command} {o : ModelOutcome}
    (h : PortStep true u t) (hv : u.rspValid = false) (hq : u.queue = c :: rest) (ho : commandOutcome c = some o) :
    t = u.offerUnspecified.markOutcome o := by
  cases h with
  | hold valid => simp [hv] at valid
  | idle _ waits => simp [hq] at waits
  | respond c' rest' r _ head _ noOutcome =>
    obtain ⟨rfl, _⟩ := List.cons.inj (hq.symm.trans head)
    simp [ho] at noOutcome
  | mark c' rest' o' _ head _ outcome =>
    obtain ⟨rfl, _⟩ := List.cons.inj (hq.symm.trans head)
    rw [Option.some.inj (ho.symm.trans outcome)]

/-! ### The two products commute (30_encoding.md R62) -/

theorem product_comm (a b : Word) : product a b = product b a := Nat.mul_comm a.toNat b.toNat

theorem wideMul_comm (a b : Word) : wideMul a b = wideMul b a := by
  rw [wideMul, product_comm, ← wideMul]

theorem truncMul_comm (a b : Word) : truncMul a b = truncMul b a := by
  rw [truncMul, product_comm, ← truncMul]

theorem exec_wmul (a b : Word) (s : State) :
    exec (.wmul a b) s = .next (s.offer (wideMul a b).hi (wideMul a b).lo) := rfl

theorem exec_tmul (a b : Word) (s : State) : exec (.tmul a b) s = .next (s.offer 0#32 (truncMul a b)) := rfl

end Machine

end Sys2Proof

namespace Sys2Proof.Proofs

open Sys2Proof.Machine

/-- Settles O29: packing and unpacking are inverse to each other, and so are decoding and `Instr.command`. -/
theorem decodeAndEncodeAgree : Obligations.DecodeAndEncodeAgree := by
  unfold Obligations.DecodeAndEncodeAgree
  constructor
  · intro i
    calc decode (encode i) = decodeCommand i.command := congrArg decodeCommand (Laws.unpack_pack i.command)
      _ = .ok i := decodeCommand_command i
  · intro w i hw
    have hunpack : unpack w = i.command := decodeCommand_eq_ok_iff.mp hw
    calc encode i = pack (unpack w) := congrArg pack hunpack.symm
      _ = w := pack_unpack w

/-- Settles O30. -/
theorem opcodeAloneSelectsInstruction : Obligations.OpcodeAloneSelectsInstruction := by
  unfold Obligations.OpcodeAloneSelectsInstruction
  intro c
  refine ⟨exists_decodeCommand_eq_ok_iff.symm, ?fields, decodeCommand_of_reserved⟩
  case fields =>
    intro i hi
    obtain rfl := decodeCommand_eq_ok_iff.mp hi
    exact ⟨rfl, rfl, rfl⟩

/-- Settles O31: five of the words are the model's own decoding examples, the sixth is INTERP 3. -/
theorem writtenWordsDecode : Obligations.WrittenWordsDecode := by
  unfold Obligations.WrittenWordsDecode
  have hinterp : decode 0x1B#67 = .ok (.interp 3#32 0#32) := by decide
  exact ⟨decode_word_clz, decode_word_wmul, decode_word_tmul, hinterp, decode_word_newton, decode_word_rsqrt⟩

/-- Settles O34: the response port answers the reserved command with free words and marks it, and the edge before it
leaves the record. -/
theorem reservedOpcodeIsAnsweredAndMarked : Obligations.ReservedOpcodeIsAnsweredAndMarked := by
  unfold Obligations.ReservedOpcodeIsAnsweredAndMarked
  intro s c rest hb hoffer hv hq hop
  obtain ⟨t, ht, hport⟩ := exists_step hb
  rw [hoffer] at hport
  have hnext : t = s.afterEdge.offerUnspecified.markRefused c.op :=
    hport.eq_of_outcome hv hq (commandOutcome_of_reserved hop)
  have hrecord : s.afterEdge.record = s.record := by simp
  rw [ht, hnext, ← hrecord]
  exact ⟨_, _, _, rfl⟩

/-- Settles O8: three arms read operand a alone, and the two products commute. -/
theorem unusedOperandIgnoredAndProductsCommute : Obligations.UnusedOperandIgnoredAndProductsCommute := by
  unfold Obligations.UnusedOperandIgnoredAndProductsCommute
  intro a b b' s
  refine ⟨?clz, ?interp, ?rsqrt, ?wmul, ?tmul⟩
  case clz => rfl
  case interp => rfl
  case rsqrt => rfl
  case wmul => rw [exec_wmul, exec_wmul, wideMul_comm]
  case tmul => rw [exec_tmul, exec_tmul, truncMul_comm]

end Sys2Proof.Proofs

/-! CLZ and the exponent (40_clz.md). All of it rests on one equation: the leading zeros of a word and its bit length make
32. -/

namespace Sys2Proof.Machine

/-! ### The leading zero count and the bit length -/

/-- Read from bit n − 1 down, the zeros above the highest set bit and the bit length make n. -/
theorem zerosFrom_add_size (x : Word) (n : Nat) (h : x.toNat.size ≤ n) : zerosFrom x n + x.toNat.size = n := by
  induction n with
  | zero => simpa [zerosFrom] using h
  | succ n ih =>
    rw [zerosFrom]
    cases hbit : x.getLsbD n with
    | true =>
      have hge : n < x.toNat.size := Nat.lt_size.mpr (Nat.ge_two_pow_of_testBit hbit)
      simp only [if_true]
      omega
    | false =>
      have hle : x.toNat.size ≤ n := by
        refine Nat.size_le.mpr (Nat.lt_pow_two_of_testBit _ fun i hi => ?_)
        rcases Nat.eq_or_lt_of_le hi with rfl | hlt
        · exact hbit
        · exact Nat.testBit_lt_two_pow (Nat.size_le.mp (h.trans hlt))
      have hrest := ih hle
      simp only [Bool.false_eq_true, if_false]
      omega

/-- 40_clz.md R80: CLZ is 32 − bit length, for every word. -/
theorem clz_add_size (x : Word) : clz x + x.toNat.size = 32 :=
  zerosFrom_add_size x 32 (Nat.size_le.mpr x.isLt)

@[simp] theorem clz_zero : clz 0#32 = 32 := rfl

theorem clz_lt_iff {x : Word} : clz x < 32 ↔ x ≠ 0#32 := by
  have hsum := clz_add_size x
  have hsize : x.toNat.size = 0 ↔ x = 0#32 := Nat.size_eq_zero.trans (BitVec.toNat_inj (y := 0#32))
  rw [ne_eq, ← hsize]
  omega

/-- A word lies below a power of two exactly when its leading zeros reach down to that bit. -/
theorem toNat_lt_two_pow_iff_le_clz {x : Word} {n : Nat} (hn : n ≤ 32) : x.toNat < 2 ^ (32 - n) ↔ n ≤ clz x := by
  have hsum := clz_add_size x
  rw [← Nat.size_le]
  omega

theorem toNat_lt_two_pow_sub_clz (x : Word) : x.toNat < 2 ^ (32 - clz x) :=
  (toNat_lt_two_pow_iff_le_clz (Nat.le.intro (clz_add_size x))).mpr le_rfl

theorem two_pow_sub_clz_le_toNat {x : Word} (hx : x ≠ 0#32) : 2 ^ (31 - clz x) ≤ x.toNat := by
  have hsum := clz_add_size x
  have hlt := clz_lt_iff.mpr hx
  exact Nat.lt_size.mp (by omega)

/-- The upper bound with its exponent written as one above the lower bound's. -/
theorem toNat_lt_two_pow_succ {x : Word} (hx : x ≠ 0#32) : x.toNat < 2 ^ (31 - clz x + 1) := by
  have hlt := clz_lt_iff.mpr hx
  have hexp : 31 - clz x + 1 = 32 - clz x := by omega
  exact hexp ▸ toNat_lt_two_pow_sub_clz x

/-- Bit 31 − clz x is the highest set bit. -/
theorem getLsbD_sub_clz {x : Word} (hx : x ≠ 0#32) : x.getLsbD (31 - clz x) = true :=
  Nat.testBit_of_two_pow_le_and_two_pow_add_one_gt (two_pow_sub_clz_le_toNat hx) (toNat_lt_two_pow_succ hx)

theorem getLsbD_of_sub_clz_lt {x : Word} {j : Nat} (hj : 31 - clz x < j) : x.getLsbD j = false :=
  Nat.testBit_lt_two_pow <| (toNat_lt_two_pow_sub_clz x).trans_le <| Nat.pow_le_pow_right Nat.two_pos (by omega)

theorem exec_clz (a b : Word) (s : State) : exec (.clz a b) s = .next (s.offer 0#32 (BitVec.ofNat 32 (clz a))) := rfl

/-! ### The exponent (40_clz.md R82) -/

theorem exponent_eq_log {x : Word} (hx : x ≠ 0#32) : exponent x = Nat.log 2 x.toNat :=
  (Nat.log_eq_of_pow_le_of_lt_pow (two_pow_sub_clz_le_toNat hx) (toNat_lt_two_pow_succ hx)).symm

/-! ### The binary search (40_clz.md R81) -/

/-- The highest n bits are zero exactly when there are at least n leading zeros. -/
theorem shr32_eq_zero_iff_le_clz {v : Word} {n : Nat} (hn : n ≤ 32) : shr32 v (32 - n) = 0#32 ↔ n ≤ clz v := by
  have hshift : shr32 v (32 - n) = 0#32 ↔ v.toNat < 2 ^ (32 - n) := by
    simp [shr32, ← BitVec.toNat_inj, Nat.shiftRight_eq_div_pow, Nat.div_eq_zero_iff]
  exact hshift.trans (toNat_lt_two_pow_iff_le_clz hn)

/-- A left shift that drops zeros only takes as many leading zeros away. -/
theorem clz_shl32_add {v : Word} {n : Nat} (hv : v ≠ 0#32) (hn : n ≤ clz v) : clz (shl32 v n) + n = clz v := by
  have hsize := Nat.size_shiftLeft (BitVec.toNat_pos_of_ne_zero hv).ne' n
  have hsum := clz_add_size v
  have hexact : (shl32 v n).toNat = v.toNat <<< n := by
    rw [shl32, BitVec.toNat_shiftLeft]
    exact Nat.mod_eq_of_lt (Nat.size_le.mp (by omega))
  have hsum' := clz_add_size (shl32 v n)
  rw [hexact, hsize] at hsum'
  omega

/-- With fewer than 2n leading zeros left, the step over n bits leaves fewer than n and moves the others to the count. -/
theorem searchStep_keeps_count {n : Nat} {nv : Nat × Word} (hn : n ≤ 16) (h : clz nv.2 < 2 * n) :
    (searchStep n nv).1 + clz (searchStep n nv).2 = nv.1 + clz nv.2 ∧ clz (searchStep n nv).2 < n := by
  have hiff := shr32_eq_zero_iff_le_clz (v := nv.2) (show n ≤ 32 by omega)
  rw [searchStep]
  split
  next hzero =>
    have hshift := clz_shl32_add (clz_lt_iff.mp (by omega)) (hiff.mp hzero)
    simp only
    omega
  next hset =>
    rw [hiff] at hset
    omega

theorem clzBinarySearch_eq_clz (x : Word) : clzBinarySearch x = clz x := by
  rw [clzBinarySearch]
  split
  next hx => rw [hx, clz_zero]
  next hx =>
    have h0 : clz ((0, x) : Nat × Word).2 < 2 * 16 := clz_lt_iff.mpr hx
    obtain ⟨h16, hlt16⟩ := searchStep_keeps_count (n := 16) (by decide) h0
    obtain ⟨h8, hlt8⟩ := searchStep_keeps_count (n := 8) (by decide) hlt16
    obtain ⟨h4, hlt4⟩ := searchStep_keeps_count (n := 4) (by decide) hlt8
    obtain ⟨h2, hlt2⟩ := searchStep_keeps_count (n := 2) (by decide) hlt4
    obtain ⟨h1, hlt1⟩ := searchStep_keeps_count (n := 1) (by decide) hlt2
    simp only [Nat.zero_add] at h16
    omega

end Sys2Proof.Machine

namespace Sys2Proof.Proofs

open Sys2Proof.Machine

/-- Settles O1: the response is (0, clz a), and bit 31 − clz a is the highest set bit of a ≠ 0. -/
theorem clzGivesLeadingZeroCount : Obligations.ClzGivesLeadingZeroCount := by
  unfold Obligations.ClzGivesLeadingZeroCount
  intro a b s
  refine ⟨decodeCommand_command (.clz a b), clz a, exec_clz a b s, ?zero, ?nonzero⟩
  case zero =>
    rintro rfl
    exact clz_zero
  case nonzero =>
    intro ha
    exact ⟨clz_lt_iff.mpr ha, getLsbD_sub_clz ha, fun _ => getLsbD_of_sub_clz_lt⟩

/-- Settles O10: each step keeps count + leading zeros, and after the last step no leading zero is left. -/
theorem binarySearchCountsLeadingZeros : Obligations.BinarySearchCountsLeadingZeros :=
  ⟨clzBinarySearch_eq_clz, by decide⟩

/-- Settles O11. -/
theorem exponentBracketsOperand : Obligations.ExponentBracketsOperand :=
  fun x hx => ⟨two_pow_sub_clz_le_toNat hx, toNat_lt_two_pow_sub_clz x, rfl, exponent_eq_log hx, Nat.sub_le 31 (clz x)⟩

end Sys2Proof.Proofs

/-! WMUL, TMUL and the half-split algorithm (41_multiply.md). The two words of a product are pinned by the number they
make up, so the half-split algorithm is WMUL as soon as its words make up a · b. -/

namespace Sys2Proof.Machine

/-! ### A response read as a 64-bit number -/

/-- 41_multiply.md R90: a response is that of the widening multiply exactly when its two words make up a · b. -/
theorem eq_wideMul_iff {r : Response} {a b : Word} :
    r = wideMul a b ↔ r.hi.toNat * 2 ^ 32 + r.lo.toNat = a.toNat * b.toNat := by
  constructor
  · rintro rfl
    exact wideMul_exact a b
  · intro h
    have hsame := h.trans (wideMul_exact a b).symm
    have hlo := r.lo.isLt
    have hlo' := (wideMul a b).lo.isLt
    have hi_eq : r.hi = (wideMul a b).hi := BitVec.eq_of_toNat_eq (by omega)
    have lo_eq : r.lo = (wideMul a b).lo := BitVec.eq_of_toNat_eq (by omega)
    calc r = ⟨r.hi, r.lo⟩ := rfl
      _ = wideMul a b := by rw [hi_eq, lo_eq]

/-! ### Carries and 16-bit shifts -/

/-- The carry out of a 32-bit sum (41_multiply.md R91: c1 and c2). -/
def carry32 (u v : Word) : Word := if 2 ^ 32 ≤ u.toNat + v.toNat then 1#32 else 0#32

theorem carry32_le_one (u v : Word) : (carry32 u v).toNat ≤ 1 := by
  rw [carry32]
  split <;> decide

theorem carry32_add_add32 (u v : Word) :
    (carry32 u v).toNat * 2 ^ 32 + (add32 u v).toNat = u.toNat + v.toNat := by
  have hu := u.isLt
  have hv := v.isLt
  rw [carry32, add32_toNat]
  split
  next hcarry => rw [BitVec.toNat_one (by decide)]; omega
  next hnone => rw [BitVec.toNat_zero]; omega

/-- The halves that a right and a left shift by 16 keep make up the word, 16 bits up. -/
theorem shr32_add_shl32 (v : Word) : (shr32 v 16).toNat * 2 ^ 32 + (shl32 v 16).toNat = v.toNat * 2 ^ 16 := by
  rw [shr32_toNat, shl32_toNat]
  omega

/-! ### The half-split algorithm (41_multiply.md R91) -/

/-- Its second half: the four cross partial products, of weights 2^0, 2^16, 2^16 and 2^32, are put together. -/
def recombine (ll lh hl hh : Word) : Response where
  hi := add32 (add32 (add32 hh (shr32 (add32 lh hl) 16)) (shl32 (carry32 lh hl) 16))
    (carry32 ll (shl32 (add32 lh hl) 16))
  lo := add32 ll (shl32 (add32 lh hl) 16)

theorem halfSplitMul_eq_recombine (a b : Word) :
    halfSplitMul a b =
      recombine (BitVec.ofNat 32 (a.toNat % 2 ^ 16 * (b.toNat % 2 ^ 16)))
        (BitVec.ofNat 32 (a.toNat % 2 ^ 16 * (b.toNat / 2 ^ 16)))
        (BitVec.ofNat 32 (a.toNat / 2 ^ 16 * (b.toNat % 2 ^ 16)))
        (BitVec.ofNat 32 (a.toNat / 2 ^ 16 * (b.toNat / 2 ^ 16))) := rfl

section Recombine

variable {ll lh hl hh : Word}

theorem recombine_lo : (recombine ll lh hl hh).lo = add32 ll (shl32 (add32 lh hl) 16) := rfl

/-- The number that the high word is, modulo 2^32: the carry of the middle terms has weight 2^16 in it. -/
theorem recombine_hi_toNat :
    (recombine ll lh hl hh).hi.toNat =
      (hh.toNat + (shr32 (add32 lh hl) 16).toNat + (carry32 lh hl).toNat * 2 ^ 16 +
        (carry32 ll (shl32 (add32 lh hl) 16)).toNat) % 2 ^ 32 := by
  have hc1 : (shl32 (carry32 lh hl) 16).toNat = (carry32 lh hl).toNat * 2 ^ 16 := by
    have hle := carry32_le_one lh hl
    rw [shl32_toNat]
    omega
  rw [recombine, add32_toNat, add32_toNat, add32_toNat, hc1, Nat.mod_add_mod, Nat.add_assoc, Nat.mod_add_mod,
    ← Nat.add_assoc]

/-- Carry by carry the weighted sum is kept; when it fits in 64 bits, the high word does not wrap. -/
theorem recombine_exact {n : Nat} (hn : n < 2 ^ 64)
    (hsum : hh.toNat * 2 ^ 32 + (lh.toNat + hl.toNat) * 2 ^ 16 + ll.toNat = n) :
    (recombine ll lh hl hh).hi.toNat * 2 ^ 32 + (recombine ll lh hl hh).lo.toNat = n := by
  have hmid := carry32_add_add32 lh hl
  have hshift := shr32_add_shl32 (add32 lh hl)
  have hlow := carry32_add_add32 ll (shl32 (add32 lh hl) 16)
  rw [recombine_hi_toNat, recombine_lo, Nat.mod_eq_of_lt (by linarith)]
  linarith

end Recombine

/-- Two 16-bit halves have a product of 32 bits. -/
theorem toNat_ofNat_mul_of_lt {m n : Nat} (hm : m < 2 ^ 16) (hn : n < 2 ^ 16) :
    (BitVec.ofNat 32 (m * n)).toNat = m * n :=
  (BitVec.toNat_ofNat _ 32).trans (Nat.mod_eq_of_lt (b := 2 ^ 16 * 2 ^ 16) (Nat.mul_lt_mul'' hm hn))

/-- The identity of R91: with the halves of a and b written out, the weighted sum of the partial products is a · b. -/
theorem halfSplitMul_exact (a b : Word) :
    (halfSplitMul a b).hi.toNat * 2 ^ 32 + (halfSplitMul a b).lo.toNat = a.toNat * b.toNat := by
  have hal : a.toNat % 2 ^ 16 < 2 ^ 16 := Nat.mod_lt _ (by decide)
  have hbl : b.toNat % 2 ^ 16 < 2 ^ 16 := Nat.mod_lt _ (by decide)
  have hah : a.toNat / 2 ^ 16 < 2 ^ 16 := Nat.div_lt_of_lt_mul a.isLt
  have hbh : b.toNat / 2 ^ 16 < 2 ^ 16 := Nat.div_lt_of_lt_mul b.isLt
  have hfits : a.toNat * b.toNat < 2 ^ 32 * 2 ^ 32 := Nat.mul_lt_mul'' a.isLt b.isLt
  rw [halfSplitMul_eq_recombine]
  refine recombine_exact hfits ?weightedSum
  rw [toNat_ofNat_mul_of_lt hal hbl, toNat_ofNat_mul_of_lt hal hbh, toNat_ofNat_mul_of_lt hah hbl,
    toNat_ofNat_mul_of_lt hah hbh]
  calc _ = (2 ^ 16 * (a.toNat / 2 ^ 16) + a.toNat % 2 ^ 16) * (2 ^ 16 * (b.toNat / 2 ^ 16) + b.toNat % 2 ^ 16) := by
        ring
    _ = a.toNat * b.toNat := by rw [Nat.div_add_mod, Nat.div_add_mod]

/-! ### TMUL and WMUL (41_multiply.md R96) -/

theorem truncMul_eq_wideMul_lo (a b : Word) : truncMul a b = (wideMul a b).lo := rfl

end Sys2Proof.Machine

namespace Sys2Proof.Proofs

open Sys2Proof.Machine

/-- Settles O12: the recombined partial products make up a · b, which pins both words. -/
theorem halfSplitMultiplyIsExact : Obligations.HalfSplitMultiplyIsExact :=
  fun a b => ⟨eq_wideMul_iff.mpr (halfSplitMul_exact a b), halfSplitMul_exact a b⟩

/-- Settles O2: the words of the offered response are those of the widening multiply. -/
theorem wmulGivesExactProduct : Obligations.WmulGivesExactProduct :=
  fun a b s => ⟨decodeCommand_command (.wmul a b), _, _, exec_wmul a b s, wideMul_exact a b⟩

/-- Settles O3: the word offered is that of the truncating multiply. -/
theorem tmulGivesLowWord : Obligations.TmulGivesLowWord :=
  fun a b s => ⟨decodeCommand_command (.tmul a b), _, exec_tmul a b s, truncMul_toNat a b⟩

/-- Settles O13: both commands offer the product modulo 2^32 in the low word. -/
theorem tmulLowWordIsWmulLowWord : Obligations.TmulLowWordIsWmulLowWord :=
  fun a b s => ⟨_, _, exec_tmul a b s, exec_wmul a b s, truncMul_eq_wideMul_lo a b⟩

end Sys2Proof.Proofs

/-! INTERP (42_interpolator.md): the four steps of R110 in closed form, for every SEED; then the bounds of R115 and
R116, which rest on one fact about the blend: with a legal pair of seeds (`SeedsBracket`) and a fraction below 2^16 its
product stays below 2^32. -/

namespace Sys2Proof.Machine

/-! ### Steps 1 and 2: the exponent and the two seeds -/

theorem exponent_lt (x : Word) : exponent x < 32 := Nat.lt_succ_of_le (Nat.sub_le 31 (clz x))

theorem two_pow_exponent_le {x : Word} (hx : x ≠ 0#32) : 2 ^ exponent x ≤ x.toNat := two_pow_sub_clz_le_toNat hx

theorem toNat_lt_two_pow_exponent_succ {x : Word} (hx : x ≠ 0#32) : x.toNat < 2 ^ (exponent x + 1) :=
  toNat_lt_two_pow_succ hx

theorem ne_zero_of_two_pow_le {x : Word} {e : Nat} (hlow : 2 ^ e ≤ x.toNat) : x ≠ 0#32 := by
  rintro rfl
  exact absurd hlow (Nat.two_pow_pos e).not_ge

theorem exponent_eq_of_bounds {x : Word} {e : Nat} (hlow : 2 ^ e ≤ x.toNat) (hhigh : x.toNat < 2 ^ (e + 1)) :
    exponent x = e :=
  (exponent_eq_log (ne_zero_of_two_pow_le hlow)).trans (Nat.log_eq_of_pow_le_of_lt_pow hlow hhigh)

theorem seedRead_ofNat (seed : Vector Word 32) {k : Nat} (hk : k < 32) :
    seedRead seed (BitVec.ofNat 5 k) = seed[k] := by
  simp only [seedRead, BitVec.toNat_ofNat, Nat.mod_eq_of_lt hk]

theorem yBase_eq (seed : Vector Word 32) {e : Nat} (he : e < 32) : yBase seed e = seed[e] := seedRead_ofNat seed he

theorem yNext_of_lt (seed : Vector Word 32) {e : Nat} (he : e < 31) : yNext seed e = seed[e + 1] :=
  (if_pos he).trans (seedRead_ofNat seed (Nat.succ_lt_succ he))

theorem yNext_of_not_lt (seed : Vector Word 32) {e : Nat} (he : ¬ e < 31) : yNext seed e = 1#32 := if_neg he

theorem yNext_eq (seed : Vector Word 32) (e : Nat) :
    yNext seed e = if h : e < 31 then seed[e + 1] else 1#32 := by
  split
  next h => exact yNext_of_lt seed h
  next h => exact yNext_of_not_lt seed h

/-! ### Step 3: the fraction (42_interpolator.md R113) -/

section Fraction

variable {x : Word} {e : Nat}

theorem sub32_two_pow_toNat (he : e < 32) (hlow : 2 ^ e ≤ x.toNat) :
    (sub32 x (shl32 1#32 e)).toNat = x.toNat - 2 ^ e := by
  have hpow : (shl32 1#32 e).toNat = 2 ^ e := by
    rw [shl32_toNat, BitVec.toNat_ofNat]
    simpa using Nat.mod_eq_of_lt (Nat.pow_lt_pow_right Nat.one_lt_two he)
  have hx := x.isLt
  rw [sub32_toNat, hpow]
  omega

/-- The closed form of R113: the right shift rounds down, the left shift is exact and does not wrap. -/
theorem fraction_toNat (he : e < 32) (hlow : 2 ^ e ≤ x.toNat) (hhigh : x.toNat < 2 ^ (e + 1)) :
    (fraction x e).toNat = (x.toNat - 2 ^ e) * 2 ^ 16 / 2 ^ e := by
  have hsub := sub32_two_pow_toNat he hlow
  rw [fraction]
  split
  next h16 =>
    have hpow : 2 ^ (e - 16) * 2 ^ 16 = 2 ^ e := by rw [← Nat.pow_add, Nat.sub_add_cancel h16]
    rw [shr32_toNat, hsub, ← hpow, Nat.mul_div_mul_right _ _ (by decide)]
  next h16 =>
    have hpow : 2 ^ (16 - e) * 2 ^ e = 2 ^ 16 := by rw [← Nat.pow_add, Nat.sub_add_cancel (by omega)]
    have hfits : (x.toNat - 2 ^ e) * 2 ^ (16 - e) < 2 ^ 32 :=
      calc (x.toNat - 2 ^ e) * 2 ^ (16 - e) ≤ 2 ^ e * 2 ^ (16 - e) := Nat.mul_le_mul_right _ (by omega)
        _ = 2 ^ 16 := (Nat.mul_comm _ _).trans hpow
        _ < 2 ^ 32 := by decide
    rw [shl32_toNat, hsub, Nat.mod_eq_of_lt hfits, ← hpow, ← Nat.mul_assoc,
      Nat.mul_div_cancel _ (Nat.two_pow_pos e)]

/-- 42_interpolator.md R115 (i). -/
theorem fraction_lt (he : e < 32) (hlow : 2 ^ e ≤ x.toNat) (hhigh : x.toNat < 2 ^ (e + 1)) :
    (fraction x e).toNat < 2 ^ 16 := by
  rw [fraction_toNat he hlow hhigh]
  exact Nat.div_lt_of_lt_mul (Nat.mul_lt_mul_of_pos_right (by omega) (by decide))

/-- At a power of two nothing remains above 2^e. -/
theorem fraction_two_pow (he : e < 32) (hx : x.toNat = 2 ^ e) : fraction x e = 0#32 := by
  have hhigh : x.toNat < 2 ^ (e + 1) := hx ▸ Nat.pow_lt_pow_right Nat.one_lt_two (Nat.lt_succ_self e)
  apply BitVec.eq_of_toNat_eq
  rw [fraction_toNat he hx.ge hhigh, hx]
  simp

end Fraction

/-! ### Step 4: the blend -/

/-- The blend for any two seeds, modulo 2^32 (42_interpolator.md R114). -/
theorem blend_eq (base next f : Word) :
    blend base next f = base - BitVec.ofNat 32 ((base - next).toNat * f.toNat % 2 ^ 32 / 2 ^ 16) := by
  have hshift : shr32 (truncMul (sub32 base next) f) 16 =
      BitVec.ofNat 32 ((base - next).toNat * f.toNat % 2 ^ 32 / 2 ^ 16) := by
    rw [← truncMul_toNat, ← shr32_toNat, BitVec.ofNat_toNat, BitVec.setWidth_eq]
    rfl
  rw [blend, hshift]
  rfl

/-- What the constraints of 10_state.md R21 give of the two seeds of one INTERP (42_interpolator.md R115 (ii)). -/
structure SeedsBracket (base next : Word) : Prop where
  one_le_next : 1 ≤ next.toNat
  next_le_base : next.toNat ≤ base.toNat
  base_le : base.toNat ≤ 65536

theorem seedsBracket_of_seedOk {seed : Vector Word 32} (h : SeedOk seed) {e : Nat} (he : e < 32) :
    SeedsBracket (yBase seed e) (yNext seed e) := by
  have hrange := Proofs.seedEntriesLieInOneTo65536 seed h
  obtain ⟨hone, hmax⟩ := hrange ⟨e, he⟩
  rw [yBase_eq seed he]
  rcases Nat.lt_or_ge e 31 with hlt | hge
  · obtain ⟨honeNext, _⟩ := hrange ⟨e + 1, Nat.succ_lt_succ hlt⟩
    obtain ⟨_, hfall, _⟩ := h
    rw [yNext_of_lt seed hlt]
    exact ⟨honeNext, (BitVec.lt_def.mp (hfall ⟨e, hlt⟩)).le, hmax⟩
  · rw [yNext_of_not_lt seed hge.not_gt]
    exact ⟨le_rfl, hone, hmax⟩

/-- A fraction below 1 takes at most the whole width away. -/
theorem width_mul_div_le (d : Nat) {f : Nat} (hf : f < 2 ^ 16) : d * f / 65536 ≤ d := by
  refine Nat.div_le_of_le_mul ?_
  rw [Nat.mul_comm 65536]
  exact Nat.mul_le_mul_left d hf.le

/-- It leaves something of a width that is not 0. -/
theorem width_mul_div_lt {d f : Nat} (hd : 0 < d) (hf : f < 2 ^ 16) : d * f / 65536 < d := by
  refine Nat.div_lt_of_lt_mul ?_
  rw [Nat.mul_comm 65536]
  exact Nat.mul_lt_mul_of_pos_left hf hd

section SeedsBracket

variable {base next f : Word}

theorem SeedsBracket.sub32_toNat (h : SeedsBracket base next) : (sub32 base next).toNat = base.toNat - next.toNat := by
  obtain ⟨_, hle, hmax⟩ := h
  rw [Machine.sub32_toNat]
  omega

theorem SeedsBracket.width_le (h : SeedsBracket base next) : base.toNat - next.toNat ≤ 65535 := by
  obtain ⟨hone, _, hmax⟩ := h
  omega

/-- 42_interpolator.md R115 (iii). -/
theorem SeedsBracket.product_le (h : SeedsBracket base next) (hf : f.toNat < 2 ^ 16) :
    (base.toNat - next.toNat) * f.toNat ≤ 4294836225 :=
  Nat.mul_le_mul h.width_le (Nat.le_of_lt_succ hf)

theorem SeedsBracket.truncMul_toNat (h : SeedsBracket base next) (hf : f.toNat < 2 ^ 16) :
    (truncMul (sub32 base next) f).toNat = (base.toNat - next.toNat) * f.toNat := by
  rw [Machine.truncMul_toNat, h.sub32_toNat]
  exact Nat.mod_eq_of_lt ((h.product_le hf).trans_lt (by decide))

theorem SeedsBracket.blend_toNat (h : SeedsBracket base next) (hf : f.toNat < 2 ^ 16) :
    (blend base next f).toNat = base.toNat - (base.toNat - next.toNat) * f.toNat / 65536 := by
  have hle := width_mul_div_le (base.toNat - next.toNat) hf
  have hbase := base.isLt
  rw [blend, Machine.sub32_toNat, shr32_toNat, h.truncMul_toNat hf]
  omega

theorem SeedsBracket.blend_mem (h : SeedsBracket base next) (hf : f.toNat < 2 ^ 16) :
    next.toNat ≤ (blend base next f).toNat ∧ (blend base next f).toNat ≤ base.toNat := by
  have hle := width_mul_div_le (base.toNat - next.toNat) hf
  have hnext := h.next_le_base
  rw [h.blend_toNat hf]
  omega

theorem SeedsBracket.next_lt_blend (h : SeedsBracket base next) (hf : f.toNat < 2 ^ 16) (hlt : next < base) :
    next < blend base next f := by
  rw [BitVec.lt_def] at hlt ⊢
  have hkept := width_mul_div_lt (Nat.sub_pos_of_lt hlt) hf
  rw [h.blend_toNat hf]
  omega

end SeedsBracket

/-- Seeds of width 0 blend to either of them. -/
theorem blend_self (base f : Word) : blend base base f = base := by
  simp [blend_eq]

theorem blend_zero (base next : Word) : blend base next 0#32 = base := by
  simp [blend_eq]

/-! ### The instruction -/

theorem interpInContract_iff {a : Word} : interpInContract a = true ↔ a ≠ 0#32 ∧ a ≠ 0xFFFFFFFF#32 := by
  rw [interpInContract, Bool.and_eq_true, decide_eq_true_iff, decide_eq_true_iff, uint32Max]

theorem exec_interp_of_inContract {a : Word} (b : Word) (s : State) (ha : a ≠ 0#32) (ha' : a ≠ 0xFFFFFFFF#32) :
    exec (.interp a b) s = .next (s.offer 0#32 (interpolate s.params.seed a)) :=
  if_pos (interpInContract_iff.mpr ⟨ha, ha'⟩)

theorem exec_interp_of_outside {a : Word} (b : Word) (s : State) (ha : a = 0#32 ∨ a = 0xFFFFFFFF#32) :
    exec (.interp a b) s = .next (s.offerUnspecified.markFault a) :=
  if_neg fun h => (interpInContract_iff.mp h).elim fun hzero hmax => ha.elim hzero hmax

end Sys2Proof.Machine

namespace Sys2Proof.Proofs

open Sys2Proof.Machine

/-- Settles O5: two free words are offered, then the fault is marked. -/
theorem interpOutsideContractDrawsFreeWords : Obligations.InterpOutsideContractDrawsFreeWords :=
  fun _ b s ha => exec_interp_of_outside b s ha

/-- Settles O4: the bounds on a pin the exponent, and the fraction's closed form goes into the blend's. -/
theorem interpGivesBlend : Obligations.InterpGivesBlend := by
  unfold Obligations.InterpGivesBlend
  intro a b s
  refine ⟨decodeCommand_command (.interp a b), ?inContract, ?outside⟩
  case inContract =>
    intro e he hlow hhigh hmax
    have hblend := blend_eq (yBase s.params.seed e) (yNext s.params.seed e) (fraction a e)
    rw [fraction_toNat he hlow hhigh] at hblend
    refine ⟨_, _, _, yBase_eq s.params.seed he, yNext_eq s.params.seed e, hblend, ?_⟩
    rw [exec_interp_of_inContract b s (ne_zero_of_two_pow_le hlow) hmax, interpolate, exponent_eq_of_bounds hlow hhigh]
    rfl
  case outside =>
    intro ha
    exact ⟨_, _, _, exec_interp_of_outside b s ha⟩

/-- Settles O14: the two seeds bracket and the fraction is below 2^16, so every step of the blend is exact. -/
theorem interpBlendNeverWraps : Obligations.InterpBlendNeverWraps := by
  unfold Obligations.InterpBlendNeverWraps
  intro seed x hseed hx _
  have he := exponent_lt x
  have hlow := two_pow_exponent_le hx
  have hhigh := toNat_lt_two_pow_exponent_succ hx
  have hf := fraction_lt he hlow hhigh
  have hbracket := seedsBracket_of_seedOk hseed he
  exact ⟨_, _, _, _, rfl, rfl, rfl, rfl, fraction_toNat he hlow hhigh, Nat.le_of_lt_succ hf,
    hbracket.next_le_base, hbracket.base_le, hbracket.sub32_toNat, hbracket.width_le, hbracket.product_le hf,
    hbracket.truncMul_toNat hf, hbracket.blend_toNat hf⟩

/-- Settles O15: the blend of two seeds that bracket lies between them. -/
theorem interpResultRange : Obligations.InterpResultRange := by
  unfold Obligations.InterpResultRange
  intro seed x hseed hx _
  have hf := fraction_lt (exponent_lt x) (two_pow_exponent_le hx) (toNat_lt_two_pow_exponent_succ hx)
  have hbracket := seedsBracket_of_seedOk hseed (exponent_lt x)
  obtain ⟨hlower, hupper⟩ := hbracket.blend_mem hf
  refine ⟨?positiveWidth, ?noWidth, ?powerOfTwo, hbracket.one_le_next.trans hlower, hupper.trans hbracket.base_le⟩
  case positiveWidth =>
    intro hlt
    exact ⟨hbracket.next_lt_blend hf hlt, BitVec.le_def.mpr hupper⟩
  case noWidth =>
    intro heq
    rw [interpolate, heq, blend_self]
  case powerOfTwo =>
    intro e he hpow
    have hexp : exponent x = e :=
      exponent_eq_of_bounds hpow.ge (hpow ▸ Nat.pow_lt_pow_right Nat.one_lt_two (Nat.lt_succ_self e))
    have hfraction : fraction x (exponent x) = 0#32 := by rw [hexp, fraction_two_pow he hpow]
    refine ⟨hfraction, ?_⟩
    rw [interpolate, hfraction, blend_zero, hexp, yBase_eq seed he]

end Sys2Proof.Proofs

/-! NEWTON (43_newton.md): each of its three parts in closed form (R131, R132, R133), then the rules about the whole step.
As long as x · y², rounded down to Q16.16, is at most 3.0, neither wrap of R135 occurs and the step is plain arithmetic. -/

namespace Sys2Proof.Machine

/-! ### Pairs of words as 64-bit numbers -/

/-- Shifted right by k and kept to 32 bits: the high word's low bits stand above the low word's high ones. -/
theorem shl32_or_shr32_toNat (hi lo : Word) {j k : Nat} (h : j + k = 32) :
    (shl32 hi j ||| shr32 lo k).toNat = (hi.toNat * 2 ^ 32 + lo.toNat) / 2 ^ k % 2 ^ 32 := by
  have hpow : 2 ^ 32 = 2 ^ j * 2 ^ k := by rw [← Nat.pow_add, h]
  have hlow : lo.toNat / 2 ^ k < 2 ^ j := Nat.div_lt_of_lt_mul (Nat.mul_comm _ _ ▸ hpow ▸ lo.isLt)
  have hhigh : hi.toNat * 2 ^ j % 2 ^ 32 = 2 ^ j * (hi.toNat % 2 ^ k) := by
    rw [hpow, Nat.mul_comm, Nat.mul_mod_mul_left]
  have hshift : (hi.toNat * 2 ^ 32 + lo.toNat) / 2 ^ k = 2 ^ j * hi.toNat + lo.toNat / 2 ^ k := by
    rw [hpow, Nat.mul_comm hi.toNat, Nat.mul_right_comm, Nat.mul_comm _ (2 ^ k), Nat.mul_add_div (Nat.two_pow_pos k)]
  calc (shl32 hi j ||| shr32 lo k).toNat = 2 ^ j * (hi.toNat % 2 ^ k) + lo.toNat / 2 ^ k := by
        rw [BitVec.toNat_or, shl32_toNat, shr32_toNat, hhigh, Nat.two_pow_add_eq_or_of_lt hlow]
    _ = (hi.toNat * 2 ^ 32 + lo.toNat) / 2 ^ k % 2 ^ 32 := by
        rw [hshift, hpow, Nat.mod_mul, Nat.mul_add_mod, Nat.mod_eq_of_lt hlow, Nat.mul_add_div (Nat.two_pow_pos j),
          Nat.div_eq_of_lt hlow, Nat.add_zero, Nat.add_comm]

/-- Adding a word with its carry is exact when the high word has room for the carry. -/
theorem add32_carry32_exact {hi : Word} (lo w : Word) (h : hi.toNat + 1 < 2 ^ 32) :
    (add32 hi (carry32 lo w)).toNat * 2 ^ 32 + (add32 lo w).toNat = hi.toNat * 2 ^ 32 + lo.toNat + w.toNat := by
  have hcarry := carry32_le_one lo w
  have hlow := carry32_add_add32 lo w
  have hhigh : (add32 hi (carry32 lo w)).toNat = hi.toNat + (carry32 lo w).toNat := by
    rw [add32_toNat]
    exact Nat.mod_eq_of_lt (by omega)
  rw [hhigh, Nat.add_mul, Nat.add_assoc, hlow, Nat.add_assoc]

/-! ### Steps 1 to 4 (43_newton.md R131) -/

theorem wideMul_lo_toNat (a b : Word) : (wideMul a b).lo.toNat = a.toNat * b.toNat % 2 ^ 32 := truncMul_toNat a b

/-- Only the low word of x · y2_hi counts: its high word lies 48 bits and more above. -/
theorem newtonXy2_toNat (y x : Word) :
    (newtonXy2 y x).toNat = x.toNat * y.toNat * y.toNat / 2 ^ 16 % 2 ^ 32 := by
  have htermA := wideMul_lo_toNat x (wideMul y y).hi
  have htermB := shl32_or_shr32_toNat (wideMul x (wideMul y y).lo).hi (wideMul x (wideMul y y).lo).lo
    (j := 16) (k := 16) rfl
  rw [wideMul_exact] at htermB
  have hsplit : x.toNat * y.toNat * y.toNat =
      x.toNat * (wideMul y y).hi.toNat * 2 ^ 32 + x.toNat * (wideMul y y).lo.toNat := by
    rw [Nat.mul_assoc, ← wideMul_exact, Nat.mul_add, Nat.mul_assoc]
  rw [newtonXy2, add32_toNat, shl32_toNat, htermA, htermB, hsplit]
  omega

/-! ### Step 5 (43_newton.md R132) -/

theorem newtonTerm_toNat (xy2 : Word) : (newtonTerm xy2).toNat = (2 ^ 32 - xy2.toNat + 196608) % 2 ^ 32 :=
  sub32_toNat _ _

/-! ### Step 6 (43_newton.md R133) -/

theorem wideMul_hi_succ_lt (a b : Word) : (wideMul a b).hi.toNat + 1 < 2 ^ 32 := by
  have hexact := wideMul_exact a b
  have hle : a.toNat * b.toNat ≤ (2 ^ 32 - 1) * (2 ^ 32 - 1) :=
    Nat.mul_le_mul (Nat.le_of_lt_succ a.isLt) (Nat.le_of_lt_succ b.isLt)
  omega

/-- The high word takes the carry without a wrap, so the two rounded words make up y · term + 2^16. -/
theorem newtonRound_toNat (y term : Word) :
    (newtonRound y term).toNat = (y.toNat * term.toNat + 2 ^ 16) / 2 ^ 17 % 2 ^ 32 := by
  have hsum := add32_carry32_exact (wideMul y term).lo (BitVec.ofNat 32 (2 ^ 16)) (wideMul_hi_succ_lt y term)
  rw [wideMul_exact, BitVec.toNat_ofNat, Nat.mod_eq_of_lt (by decide)] at hsum
  rw [← hsum]
  exact shl32_or_shr32_toNat _ _ rfl

/-! ### The whole step -/

/-- 43_newton.md R134, its last line. -/
theorem newtonStep_toNat (y x : Word) :
    (newtonStep y x).toNat = (y.toNat * (newtonTerm (newtonXy2 y x)).toNat + 2 ^ 16) / 2 ^ 17 % 2 ^ 32 :=
  newtonRound_toNat y _

theorem exec_newton (y x : Word) (s : State) : exec (.newton y x) s = .next (s.offer 0#32 (newtonStep y x)) := rfl

/-- xy2 is exact exactly when x · y² fits in 48 bits (43_newton.md R135 (v)). -/
theorem newtonXy2_exact_iff {y x : Word} :
    (newtonXy2 y x).toNat = x.toNat * y.toNat * y.toNat / 2 ^ 16 ↔ x.toNat * y.toNat * y.toNat < 2 ^ 48 := by
  rw [newtonXy2_toNat]
  omega

/-- Neither wrap of 43_newton.md R135 occurs as long as x · y² rounds down to at most 3.0. -/
theorem newtonTerm_newtonXy2_toNat {y x : Word} (h : x.toNat * y.toNat * y.toNat / 2 ^ 16 ≤ 196608) :
    (newtonTerm (newtonXy2 y x)).toNat = 196608 - x.toNat * y.toNat * y.toNat / 2 ^ 16 := by
  rw [newtonTerm_toNat, newtonXy2_toNat]
  omega

theorem newtonRound_zero_left (term : Word) : newtonRound 0#32 term = 0#32 := by
  apply BitVec.eq_of_toNat_eq
  simp [newtonRound_toNat]

theorem newtonRound_zero_right (y : Word) : newtonRound y 0#32 = 0#32 := by
  apply BitVec.eq_of_toNat_eq
  simp [newtonRound_toNat]

theorem newtonXy2_zero_right (y : Word) : newtonXy2 y 0#32 = 0#32 := by
  apply BitVec.eq_of_toNat_eq
  simp [newtonXy2_toNat]

/-- 43_newton.md R136: at x · y² = 1.0 every step is exact. -/
theorem newton_of_exact_root {y x : Word} (h : x.toNat * y.toNat * y.toNat = 2 ^ 32) :
    newtonXy2 y x = 65536#32 ∧ newtonTerm 65536#32 = 131072#32 ∧ newtonStep y x = y := by
  have hxy2 : newtonXy2 y x = 65536#32 := by
    apply BitVec.eq_of_toNat_eq
    rw [newtonXy2_toNat, h]
    rfl
  have hterm : newtonTerm 65536#32 = 131072#32 := by decide
  refine ⟨hxy2, hterm, ?_⟩
  apply BitVec.eq_of_toNat_eq
  have hy := y.isLt
  rw [newtonStep_toNat, hxy2, hterm, BitVec.toNat_ofNat]
  omega

/-! ### The correctly rounded estimate (43_newton.md R137)

Write N for x · y², where 2^32 stands for 1.0. N is so near to 2^32 that one Newton step corrects y by
y · (2^32 − N) / 2^33, at most 1 either way; the truncation of xy2 and the rounding do not use up what is left. -/

/-- y is 65536 / √x rounded to nearest: y − 1/2 ≤ 65536 / √x ≤ y + 1/2, squared and without denominators. -/
structure RoundsRoot (y x : Nat) : Prop where
  pos : 0 < x
  lt : x < 2 ^ 32
  low : (2 * (y : Int) - 1) ^ 2 * x ≤ 2 ^ 34
  high : 2 ^ 34 ≤ (2 * y + 1) ^ 2 * x

section RoundsRoot

variable {y x : Nat}

theorem RoundsRoot.low_expanded (h : RoundsRoot y x) : 4 * (x * y * y) + x ≤ 2 ^ 34 + 4 * (x * y) := by
  have hlow := h.low
  zify
  linarith

theorem RoundsRoot.high_expanded (h : RoundsRoot y x) : 2 ^ 34 ≤ 4 * (x * y * y) + 4 * (x * y) + x := by
  have hhigh := h.high
  linarith

theorem RoundsRoot.one_le (h : RoundsRoot y x) : 1 ≤ y := by
  have hhigh := h.high
  have hlt := h.lt
  rcases Nat.eq_zero_or_pos y with rfl | hy
  · omega
  · exact hy

theorem RoundsRoot.le (h : RoundsRoot y x) : y ≤ 65536 := by
  have hpos : (1 : Int) ≤ x := by exact_mod_cast h.pos
  have hsquare : (2 * (y : Int) - 1) ^ 2 ≤ (2 ^ 17) ^ 2 :=
    calc (2 * (y : Int) - 1) ^ 2 ≤ (2 * (y : Int) - 1) ^ 2 * x := le_mul_of_one_le_right (sq_nonneg _) hpos
      _ ≤ (2 ^ 17) ^ 2 := h.low
  obtain ⟨_, hroot⟩ := abs_le_of_sq_le_sq' hsquare (by norm_num)
  omega

/-- N is at most 16/9: for y ≥ 2 because 3y ≤ 2 · (2y − 1), for y = 1 because x is a word. -/
theorem RoundsRoot.product_le (h : RoundsRoot y x) : 9 * (x * y * y) ≤ 2 ^ 36 := by
  rcases h.one_le.eq_or_lt with rfl | htwo
  · have hlt := h.lt
    omega
  · have hroot : (3 * (y : Int)) ^ 2 ≤ (2 * (2 * y - 1)) ^ 2 := pow_le_pow_left₀ (by omega) (by omega) 2
    have hscaled := mul_le_mul_of_nonneg_right hroot (Int.natCast_nonneg x)
    have hlow := h.low
    zify
    linarith

/-- Upwards the correction is below one ULP. -/
theorem RoundsRoot.correction_up_lt (h : RoundsRoot y x) : y * 2 ^ 32 < y * (x * y * y) + 2 ^ 33 := by
  rcases Nat.lt_or_ge (x * y * y) (2 ^ 32) with hbelow | habove
  · have hhigh := Nat.mul_le_mul_left y h.high_expanded
    have hxy := Nat.le_mul_of_pos_right (x * y) h.one_le
    linarith
  · have hmono := Nat.mul_le_mul_left y habove
    omega

/-- Downwards the correction is at most one ULP. -/
theorem RoundsRoot.correction_down_le (h : RoundsRoot y x) : y * (x * y * y) ≤ y * 2 ^ 32 + 2 ^ 33 := by
  have hlow := Nat.mul_le_mul_left y h.low_expanded
  have hproduct := h.product_le
  linarith [Nat.zero_le (y * x)]

end RoundsRoot

/-- The term is exact but for the truncation of xy2, which adds less than one unit to it: y times these bounds and the
bounds on the correction enclose the rounded product. -/
theorem RoundsRoot.newtonStep_near {y x : Word} (h : RoundsRoot y.toNat x.toNat) :
    (newtonStep y x).toNat ≤ y.toNat + 1 ∧ y.toNat ≤ (newtonStep y x).toNat + 1 := by
  have hproduct := h.product_le
  have hup := h.correction_up_lt
  have hdown := h.correction_down_le
  have hle := h.le
  have hterm := newtonTerm_newtonXy2_toNat (y := y) (x := x) (by omega)
  rw [newtonStep_toNat]
  generalize (newtonTerm (newtonXy2 y x)).toNat = t at hterm ⊢
  have htermLow : 3 * 2 ^ 32 ≤ t * 2 ^ 16 + x.toNat * y.toNat * y.toNat := by omega
  have htermHigh : t * 2 ^ 16 + x.toNat * y.toNat * y.toNat ≤ 3 * 2 ^ 32 + 2 ^ 16 := by omega
  have hlow := Nat.mul_le_mul_left y.toNat htermLow
  have hhigh := Nat.mul_le_mul_left y.toNat htermHigh
  rw [Nat.mul_add, ← Nat.mul_assoc y.toNat t] at hlow hhigh
  omega

/-! ### NEWTON inside RSQRT (43_newton.md R135 (vi)) -/

/-- A legal SeedTable in which the square of entry e, times the upper end of its octave, is at most 3.0. -/
structure SeedSquaresBounded (seed : Vector Word 32) : Prop where
  ok : SeedOk seed
  square_le : ∀ e : Fin 32, seed[e.val].toNat * seed[e.val].toNat * 2 ^ (e.val + 1) ≤ 3 * 2 ^ 32

/-- Both tables of 92_eei_decisions.md D7, entry by entry. -/
theorem seedSquaresBounded_of_candidate {seed : Vector Word 32} (h : seed = seedDefault ∨ seed = seedRound) :
    SeedSquaresBounded seed := by
  obtain ⟨hdefault, hround, _⟩ := Proofs.candidateSeedTablesMeetConstraints
  rcases h with rfl | rfl
  · exact ⟨hdefault, by decide⟩
  · exact ⟨hround, by decide⟩

theorem interpolate_le_yBase {seed : Vector Word 32} (hseed : SeedOk seed) {x : Word} (hx : x ≠ 0#32) :
    (interpolate seed x).toNat ≤ (yBase seed (exponent x)).toNat := by
  have hf := fraction_lt (exponent_lt x) (two_pow_exponent_le hx) (toNat_lt_two_pow_exponent_succ hx)
  obtain ⟨_, hle⟩ := (seedsBracket_of_seedOk hseed (exponent_lt x)).blend_mem hf
  exact hle

/-- INTERP only falls from the octave's entry, so the square of its result is bounded as that of the entry. -/
theorem SeedSquaresBounded.product_le {seed : Vector Word 32} (h : SeedSquaresBounded seed) {x : Word}
    (hx : x ≠ 0#32) :
    x.toNat * (interpolate seed x).toNat * (interpolate seed x).toNat ≤ 3 * 2 ^ 32 := by
  have hle := interpolate_le_yBase h.ok hx
  rw [yBase_eq seed (exponent_lt x)] at hle
  have hlt := toNat_lt_two_pow_exponent_succ hx
  rw [Nat.mul_assoc, Nat.mul_comm]
  exact (Nat.mul_le_mul (Nat.mul_le_mul hle hle) hlt.le).trans (h.square_le ⟨exponent x, exponent_lt x⟩)

end Sys2Proof.Machine

namespace Sys2Proof.Proofs

open Sys2Proof.Machine

/-- Settles O16. -/
theorem newtonXy2IsTruncatedSquareProduct : Obligations.NewtonXy2IsTruncatedSquareProduct := newtonXy2_toNat

/-- Settles O17: the rounding carry has room in the high word. -/
theorem newtonRoundsToNearest : Obligations.NewtonRoundsToNearest :=
  fun y term => ⟨newtonRound_toNat y term, wideMul_hi_succ_lt y term⟩

/-- Settles O6: the three parts of the step in closed form, one after the other. -/
theorem newtonClosedForm : Obligations.NewtonClosedForm := by
  unfold Obligations.NewtonClosedForm
  intro y x s
  refine ⟨decodeCommand_command (.newton y x), _, (newtonTerm (newtonXy2 y x)).toNat, _, rfl, ?term, rfl, ?next⟩
  case term =>
    have hxy2 := (newtonXy2 y x).isLt
    rw [newtonTerm_toNat, ← newtonXy2_toNat]
    omega
  case next =>
    rw [exec_newton, ← newtonStep_toNat, BitVec.ofNat_toNat, BitVec.setWidth_eq]
    rfl

/-- Settles O18: each corner case is a closed form at that operand; the three examples are evaluated. -/
theorem newtonEdgeOperands : Obligations.NewtonEdgeOperands := by
  unfold Obligations.NewtonEdgeOperands
  have hthree : newtonTerm 0#32 = 196608#32 := by decide
  have hzero : newtonTerm 196608#32 = 0#32 := by decide
  refine ⟨fun x => newtonRound_zero_left _, ?zeroInput, ?termZero, ?termWraps, ?xy2Wraps, ?examples⟩
  case zeroInput =>
    intro y
    refine ⟨newtonXy2_zero_right y, hthree, ?_⟩
    have hterm : (newtonTerm (newtonXy2 y 0#32)).toNat = 196608 := by
      rw [newtonXy2_zero_right, hthree]
      rfl
    have hhalf : (y.toNat * 196608 + 2 ^ 16) / 2 ^ 17 = (3 * y.toNat + 1) / 2 := by omega
    rw [newtonStep_toNat, hterm, hhalf]
  case termZero =>
    intro y x hxy2
    rw [newtonStep, hxy2, hzero]
    exact ⟨rfl, newtonRound_zero_right y⟩
  case termWraps =>
    intro xy2 hlt
    have hxy2 := xy2.isLt
    have hlt' : 196608 < xy2.toNat := BitVec.lt_def.mp hlt
    rw [newtonTerm_toNat]
    omega
  case xy2Wraps =>
    intro y x
    rw [ne_eq, newtonXy2_exact_iff, Nat.not_lt]
  case examples => decide

/-- Settles O19: at x · y² = 2^32 no step rounds or wraps. -/
theorem newtonFixesExactRoots : Obligations.NewtonFixesExactRoots := by
  unfold Obligations.NewtonFixesExactRoots
  constructor
  · intro y x s hroot
    obtain ⟨hxy2, hterm, hstep⟩ := newton_of_exact_root hroot
    rw [exec_newton, hstep, hxy2]
    exact ⟨rfl, hterm, rfl⟩
  · intro k hk
    rw [← Nat.pow_add, ← Nat.pow_add]
    congr 1
    omega

/-- Settles O20: the correction of a correctly rounded estimate is at most one ULP either way. -/
theorem newtonMovesConvergedEstimateAtMostOneUlp : Obligations.NewtonMovesConvergedEstimateAtMostOneUlp := by
  unfold Obligations.NewtonMovesConvergedEstimateAtMostOneUlp
  constructor
  · intro y x hx _ hlow hhigh
    exact RoundsRoot.newtonStep_near ⟨BitVec.toNat_pos_of_ne_zero hx, x.isLt, hlow, hhigh⟩
  · decide

/-- Settles O21: the largest estimate of an octave is its entry, and the squares of both tables' entries are bounded. -/
theorem rsqrtNewtonStepNeverWraps : Obligations.RsqrtNewtonStepNeverWraps := by
  unfold Obligations.RsqrtNewtonStepNeverWraps
  rintro seed x y0 hseed hx _ rfl
  have hproduct := (seedSquaresBounded_of_candidate hseed).product_le hx
  have hthree : x.toNat * (interpolate seed x).toNat * (interpolate seed x).toNat / 2 ^ 16 ≤ 196608 := by omega
  exact ⟨by omega, hthree, newtonTerm_newtonXy2_toNat hthree⟩

end Sys2Proof.Proofs

/-! RSQRT (44_rsqrt.md): the sentinels and the computed path as rules of their own. At a power of two INTERP gives the
entry itself, so the path is one NEWTON of a SeedTable entry there. -/

namespace Sys2Proof.Machine

/-! ### The three cases of R150 -/

theorem exec_rsqrt (a b : Word) (s : State) :
    exec (.rsqrt a b) s = .next (s.offer 0#32 (reciprocalSqrt s.params.seed a)) := rfl

@[simp] theorem reciprocalSqrt_zero (seed : Vector Word 32) : reciprocalSqrt seed 0#32 = 0xFFFFFFFF#32 := rfl

@[simp] theorem reciprocalSqrt_max (seed : Vector Word 32) : reciprocalSqrt seed 0xFFFFFFFF#32 = 1#32 := rfl

theorem reciprocalSqrt_of_inContract (seed : Vector Word 32) {x : Word} (hx : x ≠ 0#32) (hmax : x ≠ 0xFFFFFFFF#32) :
    reciprocalSqrt seed x = newtonStep (interpolate seed x) x :=
  (if_neg hx).trans (if_neg hmax)

/-- The computed path with INTERP's response named. -/
theorem reciprocalSqrt_of_estimate {seed : Vector Word 32} {x y0 : Word} (hy0 : interpolate seed x = y0)
    (hx : x ≠ 0#32) (hmax : x ≠ 0xFFFFFFFF#32) : reciprocalSqrt seed x = newtonStep y0 x :=
  hy0 ▸ reciprocalSqrt_of_inContract seed hx hmax

/-- The computed path over a list of operands: NEWTON of each operand's INTERP response. -/
theorem map_reciprocalSqrt_of_estimates {seed : Vector Word 32} {xs ys : List Word}
    (hys : xs.map (interpolate seed) = ys) (hxs : xs.all interpInContract = true) :
    xs.map (reciprocalSqrt seed) = List.zipWith newtonStep ys xs := by
  rw [← hys, List.zipWith_map_left, List.zipWith_self]
  refine List.map_congr_left fun x hx => ?_
  obtain ⟨hzero, hmax⟩ := interpInContract_iff.mp (List.all_eq_true.mp hxs x hx)
  exact reciprocalSqrt_of_inContract seed hzero hmax

/-! ### Powers of two (44_rsqrt.md R153) -/

section PowersOfTwo

variable {x : Word} {e : Nat}

theorem exponent_of_toNat_eq_two_pow (hx : x.toNat = 2 ^ e) : exponent x = e :=
  exponent_eq_of_bounds hx.ge (hx ▸ Nat.pow_lt_pow_right Nat.one_lt_two (Nat.lt_succ_self e))

/-- 42_interpolator.md R116, for every SEED: no part of the octave is passed, so the entry is not blended. -/
theorem interpolate_of_toNat_eq_two_pow (seed : Vector Word 32) (he : e < 32) (hx : x.toNat = 2 ^ e) :
    interpolate seed x = seed[e] := by
  rw [interpolate, exponent_of_toNat_eq_two_pow hx, fraction_two_pow he hx, blend_zero, yBase_eq seed he]

theorem ne_max_of_toNat_eq_two_pow (he : e < 32) (hx : x.toNat = 2 ^ e) : x ≠ 0xFFFFFFFF#32 := by
  rintro rfl
  have hle : 2 ^ e ≤ 2 ^ 31 := Nat.pow_le_pow_right Nat.two_pos (Nat.le_of_lt_succ he)
  exact absurd (hx.trans_le hle) (by decide)

theorem reciprocalSqrt_of_toNat_eq_two_pow (seed : Vector Word 32) (he : e < 32) (hx : x.toNat = 2 ^ e) :
    reciprocalSqrt seed x = newtonStep seed[e] x := by
  rw [reciprocalSqrt_of_inContract seed (ne_zero_of_two_pow_le hx.ge) (ne_max_of_toNat_eq_two_pow he hx),
    interpolate_of_toNat_eq_two_pow seed he hx]

end PowersOfTwo

theorem toNat_ofNat_two_pow {e : Nat} (he : e < 32) : (BitVec.ofNat 32 (2 ^ e)).toNat = 2 ^ e :=
  (BitVec.toNat_ofNat _ 32).trans (Nat.mod_eq_of_lt (Nat.pow_lt_pow_right Nat.one_lt_two he))

/-- 43_newton.md R136 at x = 4^k: x · y² = 2^2k · 2^(16 − k) · 2^(16 − k) is 1.0, so NEWTON keeps the exact entry. -/
theorem newtonStep_four_pow {k : Nat} (hk : k ≤ 15) :
    newtonStep (BitVec.ofNat 32 (2 ^ (16 - k))) (BitVec.ofNat 32 (4 ^ k)) = BitVec.ofNat 32 (2 ^ (16 - k)) := by
  have hroot : (BitVec.ofNat 32 (2 ^ (2 * k))).toNat * (BitVec.ofNat 32 (2 ^ (16 - k))).toNat *
      (BitVec.ofNat 32 (2 ^ (16 - k))).toNat = 2 ^ 32 := by
    rw [toNat_ofNat_two_pow (by omega), toNat_ofNat_two_pow (by omega), ← Nat.pow_add, ← Nat.pow_add]
    congr 1
    omega
  obtain ⟨_, _, hkept⟩ := newton_of_exact_root hroot
  rwa [Nat.pow_mul] at hkept

theorem reciprocalSqrt_four_pow {seed : Vector Word 32} {k : Nat} (hk : k ≤ 15)
    (hseed : seed[2 * k] = BitVec.ofNat 32 (2 ^ (16 - k))) :
    reciprocalSqrt seed (BitVec.ofNat 32 (4 ^ k)) = BitVec.ofNat 32 (2 ^ (16 - k)) := by
  have hpow : (BitVec.ofNat 32 (4 ^ k)).toNat = 2 ^ (2 * k) := by
    rw [show 4 = 2 ^ 2 from rfl, ← Nat.pow_mul, toNat_ofNat_two_pow (by omega)]
  rw [reciprocalSqrt_of_toNat_eq_two_pow seed (by omega) hpow, hseed, newtonStep_four_pow hk]

/-- 2^(16 − k) read in Q16.16 is 1 / 2^k. -/
theorem q16_16_two_pow {k : Nat} (hk : k ≤ 15) : q16_16 (BitVec.ofNat 32 (2 ^ (16 - k))) = 1 / 2 ^ k := by
  have hunit : (2 : ℚ) ^ (16 - k) * 2 ^ k = 65536 := by
    rw [← pow_add, Nat.sub_add_cancel (by omega)]
    norm_num
  rw [q16_16, toNat_ofNat_two_pow (by omega), div_eq_div_iff (by norm_num) (by positivity), one_mul]
  exact_mod_cast hunit

/-- At the odd powers of two: one NEWTON of the odd entries. -/
theorem map_reciprocalSqrt_odd_two_pow (seed : Vector Word 32) :
    (List.range 16).map (fun k => reciprocalSqrt seed (BitVec.ofNat 32 (2 ^ (2 * k + 1)))) =
      (List.range 16).map (fun k => newtonStep (yBase seed (2 * k + 1)) (BitVec.ofNat 32 (2 ^ (2 * k + 1)))) := by
  refine List.map_congr_left fun k hk => ?_
  have he : 2 * k + 1 < 32 := by
    have hlt := List.mem_range.mp hk
    omega
  rw [reciprocalSqrt_of_toNat_eq_two_pow seed he (toNat_ofNat_two_pow he), yBase_eq seed he]

end Sys2Proof.Machine

namespace Sys2Proof.Proofs

open Sys2Proof.Machine

/-- Settles O23: at 4^k NEWTON keeps the exact entry; at the odd powers the entries of both tables are refined one by
one. -/
theorem rsqrtAtPowersOfTwo : Obligations.RsqrtAtPowersOfTwo := by
  unfold Obligations.RsqrtAtPowersOfTwo
  refine ⟨?exactSeed, ?candidates⟩
  case exactSeed =>
    intro seed k hk hseed
    have hexact := reciprocalSqrt_four_pow hk hseed
    exact ⟨hexact, by rw [hexact, q16_16_two_pow hk]⟩
  case candidates =>
    intro seed hmem
    rw [map_reciprocalSqrt_odd_two_pow]
    rcases List.mem_pair.mp hmem with rfl | rfl <;> exact ⟨by decide, by decide⟩

/-- Settles O7: the sentinel cases, and else the responses of the three instructions from the same state. -/
theorem rsqrtIsSentinelOrOneNewtonOfInterp : Obligations.RsqrtIsSentinelOrOneNewtonOfInterp := by
  unfold Obligations.RsqrtIsSentinelOrOneNewtonOfInterp
  intro a b s
  refine ⟨decodeCommand_command (.rsqrt a b), ?zero, ?max, ?computed⟩
  case zero =>
    rintro rfl
    rw [exec_rsqrt, reciprocalSqrt_zero]
    rfl
  case max =>
    rintro rfl
    rw [exec_rsqrt, reciprocalSqrt_max]
    rfl
  case computed =>
    intro ha hmax
    refine ⟨_, _, exec_interp_of_inContract b s ha hmax, exec_newton _ a s, ?_⟩
    rw [exec_rsqrt, reciprocalSqrt_of_inContract _ ha hmax]
    rfl

/-- Settles O22: both seeds of the last octave are 1 ULP, so the blend is 1; NEWTON of it is evaluated. -/
theorem rsqrtOfMaxIsOneEitherWay : Obligations.RsqrtOfMaxIsOneEitherWay := by
  unfold Obligations.RsqrtOfMaxIsOneEitherWay
  refine ⟨fun b s => ?sentinel, ?estimate, ?xy2, ?term, ?result⟩
  case sentinel =>
    rw [exec_rsqrt, reciprocalSqrt_max]
    rfl
  case estimate => exact blend_self 1#32 _
  case xy2 => decide
  case term => decide
  case result => decide

/-- Settles O24: the estimate falls by 1 from 5352 to 5353 and NEWTON's result still rises; below 2^30 the estimate 3 is
corrected down to 1, while at 2^30 = 4^15 the entry 2 is exact and stays. -/
theorem rsqrtIsNotMonotone : Obligations.RsqrtIsNotMonotone := by
  unfold Obligations.RsqrtIsNotMonotone
  have h5352 : interpolate seedDefault 5352#32 = 933#32 := by decide
  have h5353 : interpolate seedDefault 5353#32 = 932#32 := by decide
  have hbelow : interpolate seedDefault 1073741823#32 = 3#32 := by decide
  refine ⟨?_, ?_, ?_, reciprocalSqrt_four_pow (k := 15) le_rfl rfl⟩
  · rw [reciprocalSqrt_of_estimate h5352 (by decide) (by decide)]
    decide
  · rw [reciprocalSqrt_of_estimate h5353 (by decide) (by decide)]
    decide
  · rw [reciprocalSqrt_of_estimate hbelow (by decide) (by decide)]
    decide

/-- Settles O25: the INTERP responses at the operands of the table, and NEWTON of each. -/
theorem rsqrtAtAccuracyTableOperands : Obligations.RsqrtAtAccuracyTableOperands := by
  unfold Obligations.RsqrtAtAccuracyTableOperands
  rw [map_reciprocalSqrt_of_estimates (ys := [39555, 27969, 19777, 14285, 9995, 7105, 4972, 3473, 2502, 1773, 1261, 875,
    616, 440, 311, 214, 150, 107, 73, 56, 38, 27, 18, 14, 10, 7, 6, 4, 3, 2, 1]) (by decide) (by decide)]
  decide

end Sys2Proof.Proofs

/-! What an instruction answers, and what a step records (60_exceptions.md R170 to R174). -/

namespace Sys2Proof.Proofs

open Sys2Proof.Machine

/-- Settles O42: of the four moves of the response port, only `mark` records, and only `respond` and `mark` offer anew;
the transfers of the edge before it leave the record and the marks. -/
theorem stepRecordsOnlyTheOutcomeItOffers : Obligations.StepRecordsOnlyTheOutcomeItOffers := by
  unfold Obligations.StepRecordsOnlyTheOutcomeItOffers
  intro s t ht
  cases portStep_of_step ht with
  | hold valid =>
    refine .inl ⟨by simp, by simp, by simp, fun _ hnew => ?_⟩
    rw [State.afterEdge_rspValid, hnew] at valid
    cases valid
  | idle => exact .inl ⟨by simp, by simp, by simp, by simp⟩
  | respond c rest r _ head _ noOutcome =>
    exact .inl ⟨by simp, by simp, by simp, fun _ _ => ⟨c, rest, head, noOutcome⟩⟩
  | mark c rest o invalid head _ outcome =>
    exact .inr ⟨c, rest, o, invalid, by simp, by simpa using head, outcome, by simp, by simp, by simp⟩

/-- Settles O9: in contract the instruction is one `offer` of F's response, outside it one unspecified offer with the
mark `faulted`. -/
theorem everyInstructionAnswersFromEveryState : Obligations.EveryInstructionAnswersFromEveryState := by
  unfold Obligations.EveryInstructionAnswersFromEveryState
  intro i s
  rcases exec_cases i s with ⟨r, hr, hin, he⟩ | ⟨a, b, rfl, hout, hr, he⟩
  · exact ⟨_, he, by simp [hr, hin]⟩
  · have hcontract : (Instr.interp a b).inContract = false := hout
    exact ⟨_, he, by simp [hr, hcontract, Instr.operandA]⟩

end Sys2Proof.Proofs

/-! The moves of an edge (70_reset_and_hazards.md): a reset, a stalled response, a broken handshake, and what an edge
amounts to in the transaction-level model. -/

namespace Sys2Proof.Machine

/-! ### The response port where its move is forced -/

section PortStep

variable {offer : Bool} {u t : State}

/-- An offer that the edge did not end is held. -/
theorem PortStep.eq_of_rspValid (h : PortStep offer u t) (hv : u.rspValid = true) : t = u := by
  cases h with
  | hold => rfl
  | idle invalid => simp [hv] at invalid
  | respond _ _ _ invalid => simp [hv] at invalid
  | mark _ _ _ invalid => simp [hv] at invalid

/-- With Q empty and no offer standing there is nothing to offer. -/
theorem PortStep.eq_offerNothing (h : PortStep offer u t) (hv : u.rspValid = false) (hq : u.queue = []) :
    t = u.offerNothing := by
  cases h with
  | hold valid => simp [hv] at valid
  | idle => rfl
  | respond _ _ _ _ head => simp [hq] at head
  | mark _ _ _ _ head => simp [hq] at head

end PortStep

section Edge

variable {s t : State}

theorem accepted_of_step (ht : step s = .next t) : t.accepted = s.transfers.accepted := by
  obtain ⟨_, _, _, _, _, _, _, rfl⟩ := (portStep_of_step ht).frame
  simp

theorem State.transfers_of_rst (hrst : s.inp.rst = true) : s.transfers = s.resetEdge := by
  simp [State.transfers, hrst]

theorem State.transfers_of_not_rst (hrst : s.inp.rst = false) : s.transfers = s.takeResponse.takeRequest := by
  simp [State.transfers, hrst]

/-! ### The handshake -/

theorem step_eq_fault_iff : step s = .fault .hostBrokeHandshake ↔ s.hostBreaksHandshake = true := by
  refine ⟨fun hfault => ?_, fun hbreaks => by simp [step, hbreaks]⟩
  by_contra hkeeps
  obtain ⟨t, ht, _⟩ := exists_step (Bool.eq_false_iff.mpr hkeeps)
  rw [hfault] at ht
  cases ht

/-- The broken duty as a proposition over the host's next drive (70_reset_and_hazards.md R196 (a)). -/
theorem State.hostBreaksHandshake_iff_hostNext :
    s.hostBreaksHandshake = true ↔
      s.inp.reqValid = true ∧ ¬ (s.inp.rst = false ∧ s.reqReady = true) ∧
      ¬ (s.hostNext.reqValid = true ∧ s.hostNext.reqOp = s.inp.reqOp ∧ s.hostNext.reqA = s.inp.reqA ∧
        s.hostNext.reqB = s.inp.reqB) := by
  simp only [State.hostBreaksHandshake, Bool.and_eq_true, Bool.not_eq_true', ← Bool.not_eq_true, decide_eq_true_eq,
    State.requestTransfer_iff, and_assoc]
  exact and_congr_right fun hvalid => by simp [hvalid]

/-- A host without a plan keeps its request until it is taken, so only a planned drive breaks the handshake
(entry 6). -/
theorem State.hostBreaksHandshake_iff :
    s.hostBreaksHandshake = true ↔
      s.inp.reqValid = true ∧ ¬ (s.inp.rst = false ∧ s.reqReady = true) ∧
      ∃ d rest, s.hostPlan = d :: rest ∧
        ¬ (d.reqValid = true ∧ d.reqOp = s.inp.reqOp ∧ d.reqA = s.inp.reqA ∧ d.reqB = s.inp.reqB) := by
  rw [State.hostBreaksHandshake_iff_hostNext]
  refine and_congr_right fun hvalid => and_congr_right fun hnot => ?_
  cases hplan : s.hostPlan with
  | nil =>
    have hkept : s.requestTransfer = false := by simpa [State.requestTransfer, hvalid] using hnot
    simp [State.hostNext, hplan, hvalid, hkept]
  | cons d rest => simp [State.hostNext, hplan]

/-! ### The moves of the transaction-level model -/

theorem txnRun_append (p : Params) (ms ms' : List TxnMove) (x : TxnState) :
    txnRun p (ms ++ ms') x = (txnRun p ms x).bind (txnRun p ms') := by
  induction ms generalizing x with
  | nil => rfl
  | cons m ms ih =>
    rw [List.cons_append, txnRun, txnRun]
    cases txnApply p m x with
    | none => rfl
    | some y => exact ih y

theorem txnRun_singleton (p : Params) (m : TxnMove) (x : TxnState) : txnRun p [m] x = txnApply p m x := by
  rw [txnRun]
  cases txnApply p m x <;> rfl

theorem txn_of_step (ht : step s = .next t) : t.txn = s.transfers.txn := by
  simp [State.txn, queue_of_step ht, accepted_of_step ht, answered_of_step ht]

/-- The response that a good state offers is one that may answer the head of Q. -/
theorem Inv.answers_head (h : Inv s) {c : Command} {rest : List Command} (hv : s.rspValid = true)
    (hq : s.queue = c :: rest) : answers s.params.seed c ⟨s.rspHi, s.rspLo⟩ = true := by
  cases hr : commandResponse s.params.seed c with
  | none => exact answers_of_commandResponse_eq_none _ hr
  | some r => exact (answers_of_commandResponse_eq_some hr).mpr (h.dataOfHead c rest r hv hq hr)

/-- Taking the response is the move Respond: Q has a head, and the response offered is that of the head. -/
theorem Inv.txnRun_respond (h : Inv s) :
    txnRun s.params (if s.responseTransfer then [.respond ⟨s.rspHi, s.rspLo⟩] else []) s.txn =
      some s.takeResponse.txn := by
  rcases s.takeResponse_cases with ⟨hnot, he⟩ | ⟨htaken, hq, _⟩ | ⟨htaken, c, rest, hq, he⟩
  · rw [hnot, he]
    rfl
  · obtain ⟨_, hv, _⟩ := s.responseTransfer_iff.mp htaken
    exact absurd hq (h.validNonempty hv)
  · obtain ⟨_, hv, _⟩ := s.responseTransfer_iff.mp htaken
    rw [he, if_pos htaken, txnRun_singleton]
    simp [txnApply, State.txn, hq, h.answers_head hv hq]

/-- Taking the request is the move Accept, where a state that accepts has room in Q. -/
theorem txnRun_accept (hroom : s.requestTransfer = true → s.queue.length < s.params.outstanding) :
    txnRun s.params (if s.requestTransfer then [.accept s.requested] else []) s.txn = some s.takeRequest.txn := by
  rcases s.takeRequest_cases with ⟨hnot, he⟩ | ⟨htaken, he⟩
  · rw [hnot, he]
    rfl
  · rw [he, if_pos htaken, txnRun_singleton]
    simp [txnApply, State.txn, hroom htaken]

theorem State.takeResponse_params : s.takeResponse.params = s.params := by
  rcases s.takeResponse_cases with ⟨_, he⟩ | ⟨_, _, he⟩ | ⟨_, _, _, _, he⟩ <;> rw [he]

theorem State.takeResponse_queue_length_le : s.takeResponse.queue.length ≤ s.queue.length := by
  rcases s.takeResponse_cases with ⟨_, he⟩ | ⟨_, _, he⟩ | ⟨_, c, rest, hq, he⟩
  · rw [he]
  · rw [he]
  · simp [he, hq]

/-- In a good state the transfers of an edge are the moves of the transaction-level model (70_reset_and_hazards.md
R201). Respond goes first, and leaves Accept the room that req_ready has promised. -/
theorem Inv.txnRun_edgeMoves (h : Inv s) : txnRun s.params s.edgeMoves s.txn = some s.transfers.txn := by
  cases hrst : s.inp.rst with
  | true =>
    rw [State.transfers_of_rst hrst, State.edgeMoves, if_pos hrst]
    rfl
  | false =>
    obtain ⟨hreq, hcmd⟩ := s.takeResponse_request
    have hroom : s.takeResponse.requestTransfer = true →
        s.takeResponse.queue.length < s.takeResponse.params.outstanding := by
      intro htaken
      rw [hreq] at htaken
      obtain ⟨_, _, hready⟩ := s.requestTransfer_iff.mp htaken
      rw [State.takeResponse_params]
      exact State.takeResponse_queue_length_le.trans_lt (h.readyNotFull hready)
    have haccept := txnRun_accept hroom
    rw [hreq, hcmd, State.takeResponse_params] at haccept
    rw [State.edgeMoves, hrst, if_neg Bool.false_ne_true, txnRun_append, h.txnRun_respond, Option.bind_some, haccept,
      State.transfers_of_not_rst hrst]

end Edge

end Sys2Proof.Machine

namespace Sys2Proof.Proofs

open Sys2Proof.Machine

/-- Settles O45: the transfers of the edge are the moves, and the response port leaves Q and the histories. -/
theorem everyEdgeRefinesTransactionMoves : Obligations.EveryEdgeRefinesTransactionMoves := by
  unfold Obligations.EveryEdgeRefinesTransactionMoves
  intro s t h ht
  rw [txn_of_step ht]
  exact h.txnRun_edgeMoves

/-- Settles O36: the offer outlives the edge, so the response port holds it, and Q only grows at its end. -/
theorem stalledResponseIsHeld : Obligations.StalledResponseIsHeld := by
  unfold Obligations.StalledResponseIsHeld
  intro s hb hrst hv hready
  obtain ⟨hvalid, _, _, hanswered⟩ := s.transfers_fields
  have hnot : s.responseTransfer = false := by simp [State.responseTransfer, hready]
  have hstands : s.afterEdge.rspValid = true := by simp [hvalid, hrst, hv, hready]
  obtain ⟨t, ht, hport⟩ := exists_step hb
  obtain rfl := hport.eq_of_rspValid hstands
  refine ⟨_, ht, hstands, by simp, by simp, ?_, by simp [hanswered, hrst, hnot], by simp, by simp, by simp⟩
  rw [State.afterEdge_queue, State.transfers_queue_of_not_taken hrst hnot]
  exact ⟨_, rfl⟩

/-- Settles O37: after a reset edge Q is empty and no offer stands, so the response port offers nothing. -/
theorem resetEdgeDropsEverything : Obligations.ResetEdgeDropsEverything := by
  unfold Obligations.ResetEdgeDropsEverything
  intro s hb hrst
  have hedge := State.transfers_of_rst hrst
  obtain ⟨t, ht, hport⟩ := exists_step hb
  obtain rfl := hport.eq_offerNothing (by simp [hedge]) (by simp [hedge])
  exact ⟨_, ht, by simp +contextual [hedge]⟩

/-- Settles O40: `step_eq_fault_iff` and `State.hostBreaksHandshake_iff`, and a host that keeps its request has a next
state. -/
theorem stepStopsExactlyOnBrokenHandshake : Obligations.StepStopsExactlyOnBrokenHandshake := by
  unfold Obligations.StepStopsExactlyOnBrokenHandshake
  intro s
  refine ⟨step_eq_fault_iff.trans State.hostBreaksHandshake_iff, ?_⟩
  cases hb : s.hostBreaksHandshake with
  | true => exact .inr (step_eq_fault_iff.mpr hb)
  | false =>
    obtain ⟨t, ht, _⟩ := exists_step hb
    exact .inl ⟨t, ht⟩

end Sys2Proof.Proofs

namespace Sys2Proof.Machine

/-- The PRESUMED part of the parameters (entry 2): the table of State.reset is the first candidate of
92_eei_decisions.md D7. -/
theorem State.reset_seedOk : SeedOk State.reset.params.seed := by
  obtain ⟨hdefault, _⟩ := Proofs.candidateSeedTablesMeetConstraints
  exact hdefault

end Sys2Proof.Machine

namespace Sys2Proof.Proofs

open Sys2Proof.Machine

/-- Settles O39: SEED is a candidate table, which O26 has shown legal; the numbers chosen for OUTSTANDING and LATENCY
are compared with their bounds. -/
theorem resetParametersMeetConstraints : Obligations.ResetParametersMeetConstraints := by
  unfold Obligations.ResetParametersMeetConstraints
  have houtstanding : 1 ≤ State.reset.params.outstanding := by decide
  have hlatency : ∀ k : Fin 8, 1 ≤ State.reset.params.latency[k.val] := by decide
  have hsentinel : 1 ≤ State.reset.params.sentinelLatency := by decide
  have hsooner : State.reset.params.sentinelLatency ≤ State.reset.params.latency[5] := by decide
  exact ⟨State.reset_seedOk, houtstanding, hlatency, hsentinel, hsooner⟩

end Sys2Proof.Proofs
